-- ==== Sys2Proof/Word.lean ====
section
/-!
DEFINITION. The two word types of the hardware (R7: 8-bit registers and bytes, 16-bit addresses,
SP, PC and pair views). Arithmetic on them is modulo 2^8 and 2^16 (R9).
-/

namespace Sys2Proof

/-- A `u8`: an 8-bit register, or one byte of memory, the addressable unit (R7, R9). -/
abbrev Byte := BitVec 8

/-- A `u16`: an address, SP, PC or a pair view (R7, R9). -/
abbrev Word := BitVec 16

end Sys2Proof
end

