-- ==== Sys2Proof/Decode.lean ====
section
/-!
DEFINITION. The decoder, written from the fields and tables of 30_encoding.md (R161–R172, R174, R175)
and total on every byte (R180), and after it the encoder, written from the opcode maps (R173, R174).
First the byte-order and bit-field helpers both use.
-/

namespace Sys2Proof

/-! ### Byte order and bit fields -/

/-- `hi ++ lo` (R9). -/
def wordOf (hi lo : Byte) : Word := hi ++ lo

/-- Bits 15:8 (R9). -/
def hiByte (w : Word) : Byte := w.extractLsb' 8 8

/-- Bits 7:0 (R9). -/
def loByte (w : Word) : Byte := w.extractLsb' 0 8

/-- `sext_16(e)`: the sign extension of a two's-complement byte (R9, R170). -/
def sext16 (e : Byte) : Word := e.signExtend 16

/-- The address `0xFF00 + zext_16(n)` (R168, R171). -/
def highPage (n : Byte) : Word := 0xFF00 + n.setWidth 16

/-- Field `x`, bits 7:6 (R161). -/
def fieldX (b : Byte) : BitVec 2 := b.extractLsb' 6 2
/-- Field `y`, bits 5:3 (R161). -/
def fieldY (b : Byte) : BitVec 3 := b.extractLsb' 3 3
/-- Field `z`, bits 2:0 (R161). -/
def fieldZ (b : Byte) : BitVec 3 := b.extractLsb' 0 3
/-- Field `p`, bits 5:4 (R161). -/
def fieldP (b : Byte) : BitVec 2 := b.extractLsb' 4 2
/-- Field `q`, bit 3 (R161). -/
def fieldQ (b : Byte) : Bool := b.getLsbD 3

/-! ### The operand tables -/

/-- Table `r` (R162). -/
def tableR (i : BitVec 3) : Rm :=
  match i.toNat with
  | 0 => .reg .b
  | 1 => .reg .c
  | 2 => .reg .d
  | 3 => .reg .e
  | 4 => .reg .h
  | 5 => .reg .l
  | 6 => .atHL
  | _ => .reg .a

/-- Table `rp` (R163). -/
def tableRp (p : BitVec 2) : Rp :=
  match p.toNat with
  | 0 => .bc
  | 1 => .de
  | 2 => .hl
  | _ => .sp

/-- Table `rp2` (R164). -/
def tableRp2 (p : BitVec 2) : Rp2 :=
  match p.toNat with
  | 0 => .bc
  | 1 => .de
  | 2 => .hl
  | _ => .af

/-- Table `cc`, indexed by the low two bits of `y`: `y` itself for JP, CALL and RET, `y - 4` for JR
(R165). -/
def tableCc (y : BitVec 3) : Cond :=
  match y.toNat % 4 with
  | 0 => .nz
  | 1 => .z
  | 2 => .nc
  | _ => .c

/-- Table `alu` (R166). -/
def tableAlu (y : BitVec 3) : AluOp :=
  match y.toNat with
  | 0 => .add
  | 1 => .adc
  | 2 => .sub
  | 3 => .sbc
  | 4 => .and
  | 5 => .xor
  | 6 => .or
  | _ => .cp

/-- Table `rot` (R167). -/
def tableRot (y : BitVec 3) : RotOp :=
  match y.toNat with
  | 0 => .rlc
  | 1 => .rrc
  | 2 => .rl
  | 3 => .rr
  | 4 => .sla
  | 5 => .sra
  | 6 => .swap
  | _ => .srl

/-! ### The regular groups: the instruction of a group with the given operands -/

/-- LD r[y],r[z], with HALT in the slot of LD (HL),(HL) (R172, x = 1; R200, R202, R203, R394). -/
def Instr.ld : Rm → Rm → Instr
  | .reg .b, .reg .b => .ld_B_B
  | .reg .b, .reg .c => .ld_B_C
  | .reg .b, .reg .d => .ld_B_D
  | .reg .b, .reg .e => .ld_B_E
  | .reg .b, .reg .h => .ld_B_H
  | .reg .b, .reg .l => .ld_B_L
  | .reg .b, .atHL => .ld_B_atHL
  | .reg .b, .reg .a => .ld_B_A
  | .reg .c, .reg .b => .ld_C_B
  | .reg .c, .reg .c => .ld_C_C
  | .reg .c, .reg .d => .ld_C_D
  | .reg .c, .reg .e => .ld_C_E
  | .reg .c, .reg .h => .ld_C_H
  | .reg .c, .reg .l => .ld_C_L
  | .reg .c, .atHL => .ld_C_atHL
  | .reg .c, .reg .a => .ld_C_A
  | .reg .d, .reg .b => .ld_D_B
  | .reg .d, .reg .c => .ld_D_C
  | .reg .d, .reg .d => .ld_D_D
  | .reg .d, .reg .e => .ld_D_E
  | .reg .d, .reg .h => .ld_D_H
  | .reg .d, .reg .l => .ld_D_L
  | .reg .d, .atHL => .ld_D_atHL
  | .reg .d, .reg .a => .ld_D_A
  | .reg .e, .reg .b => .ld_E_B
  | .reg .e, .reg .c => .ld_E_C
  | .reg .e, .reg .d => .ld_E_D
  | .reg .e, .reg .e => .ld_E_E
  | .reg .e, .reg .h => .ld_E_H
  | .reg .e, .reg .l => .ld_E_L
  | .reg .e, .atHL => .ld_E_atHL
  | .reg .e, .reg .a => .ld_E_A
  | .reg .h, .reg .b => .ld_H_B
  | .reg .h, .reg .c => .ld_H_C
  | .reg .h, .reg .d => .ld_H_D
  | .reg .h, .reg .e => .ld_H_E
  | .reg .h, .reg .h => .ld_H_H
  | .reg .h, .reg .l => .ld_H_L
  | .reg .h, .atHL => .ld_H_atHL
  | .reg .h, .reg .a => .ld_H_A
  | .reg .l, .reg .b => .ld_L_B
  | .reg .l, .reg .c => .ld_L_C
  | .reg .l, .reg .d => .ld_L_D
  | .reg .l, .reg .e => .ld_L_E
  | .reg .l, .reg .h => .ld_L_H
  | .reg .l, .reg .l => .ld_L_L
  | .reg .l, .atHL => .ld_L_atHL
  | .reg .l, .reg .a => .ld_L_A
  | .atHL, .reg .b => .ld_atHL_B
  | .atHL, .reg .c => .ld_atHL_C
  | .atHL, .reg .d => .ld_atHL_D
  | .atHL, .reg .e => .ld_atHL_E
  | .atHL, .reg .h => .ld_atHL_H
  | .atHL, .reg .l => .ld_atHL_L
  | .atHL, .atHL => .halt
  | .atHL, .reg .a => .ld_atHL_A
  | .reg .a, .reg .b => .ld_A_B
  | .reg .a, .reg .c => .ld_A_C
  | .reg .a, .reg .d => .ld_A_D
  | .reg .a, .reg .e => .ld_A_E
  | .reg .a, .reg .h => .ld_A_H
  | .reg .a, .reg .l => .ld_A_L
  | .reg .a, .atHL => .ld_A_atHL
  | .reg .a, .reg .a => .ld_A_A

/-- LD r[y],n (R172; R201, R204). -/
def Instr.ldImm : Rm → Byte → Instr
  | .reg .b, n => .ld_B_n n
  | .reg .c, n => .ld_C_n n
  | .reg .d, n => .ld_D_n n
  | .reg .e, n => .ld_E_n n
  | .reg .h, n => .ld_H_n n
  | .reg .l, n => .ld_L_n n
  | .atHL, n => .ld_atHL_n n
  | .reg .a, n => .ld_A_n n

/-- INC r[y] (R172; R277, R278). -/
def Instr.inc : Rm → Instr
  | .reg .b => .inc_B
  | .reg .c => .inc_C
  | .reg .d => .inc_D
  | .reg .e => .inc_E
  | .reg .h => .inc_H
  | .reg .l => .inc_L
  | .atHL => .inc_atHL
  | .reg .a => .inc_A

/-- DEC r[y] (R172; R279, R280). -/
def Instr.dec : Rm → Instr
  | .reg .b => .dec_B
  | .reg .c => .dec_C
  | .reg .d => .dec_D
  | .reg .e => .dec_E
  | .reg .h => .dec_H
  | .reg .l => .dec_L
  | .atHL => .dec_atHL
  | .reg .a => .dec_A

/-- alu[y] r[z] (R172, x = 2; R253–R275). -/
def Instr.alu : AluOp → Rm → Instr
  | .add, .reg .b => .add_A_B
  | .add, .reg .c => .add_A_C
  | .add, .reg .d => .add_A_D
  | .add, .reg .e => .add_A_E
  | .add, .reg .h => .add_A_H
  | .add, .reg .l => .add_A_L
  | .add, .atHL => .add_A_atHL
  | .add, .reg .a => .add_A_A
  | .adc, .reg .b => .adc_A_B
  | .adc, .reg .c => .adc_A_C
  | .adc, .reg .d => .adc_A_D
  | .adc, .reg .e => .adc_A_E
  | .adc, .reg .h => .adc_A_H
  | .adc, .reg .l => .adc_A_L
  | .adc, .atHL => .adc_A_atHL
  | .adc, .reg .a => .adc_A_A
  | .sub, .reg .b => .sub_B
  | .sub, .reg .c => .sub_C
  | .sub, .reg .d => .sub_D
  | .sub, .reg .e => .sub_E
  | .sub, .reg .h => .sub_H
  | .sub, .reg .l => .sub_L
  | .sub, .atHL => .sub_atHL
  | .sub, .reg .a => .sub_A
  | .sbc, .reg .b => .sbc_A_B
  | .sbc, .reg .c => .sbc_A_C
  | .sbc, .reg .d => .sbc_A_D
  | .sbc, .reg .e => .sbc_A_E
  | .sbc, .reg .h => .sbc_A_H
  | .sbc, .reg .l => .sbc_A_L
  | .sbc, .atHL => .sbc_A_atHL
  | .sbc, .reg .a => .sbc_A_A
  | .and, .reg .b => .and_B
  | .and, .reg .c => .and_C
  | .and, .reg .d => .and_D
  | .and, .reg .e => .and_E
  | .and, .reg .h => .and_H
  | .and, .reg .l => .and_L
  | .and, .atHL => .and_atHL
  | .and, .reg .a => .and_A
  | .xor, .reg .b => .xor_B
  | .xor, .reg .c => .xor_C
  | .xor, .reg .d => .xor_D
  | .xor, .reg .e => .xor_E
  | .xor, .reg .h => .xor_H
  | .xor, .reg .l => .xor_L
  | .xor, .atHL => .xor_atHL
  | .xor, .reg .a => .xor_A
  | .or, .reg .b => .or_B
  | .or, .reg .c => .or_C
  | .or, .reg .d => .or_D
  | .or, .reg .e => .or_E
  | .or, .reg .h => .or_H
  | .or, .reg .l => .or_L
  | .or, .atHL => .or_atHL
  | .or, .reg .a => .or_A
  | .cp, .reg .b => .cp_B
  | .cp, .reg .c => .cp_C
  | .cp, .reg .d => .cp_D
  | .cp, .reg .e => .cp_E
  | .cp, .reg .h => .cp_H
  | .cp, .reg .l => .cp_L
  | .cp, .atHL => .cp_atHL
  | .cp, .reg .a => .cp_A

/-- alu[y] n (R172, x = 3, z = 6; R255–R276). -/
def Instr.aluImm : AluOp → Byte → Instr
  | .add, n => .add_A_n n
  | .adc, n => .adc_A_n n
  | .sub, n => .sub_n n
  | .sbc, n => .sbc_A_n n
  | .and, n => .and_n n
  | .xor, n => .xor_n n
  | .or, n => .or_n n
  | .cp, n => .cp_n n

/-- LD rp[p],nn (R172; R219). -/
def Instr.ldPair : Rp → Word → Instr
  | .bc, nn => .ld_BC_nn nn
  | .de, nn => .ld_DE_nn nn
  | .hl, nn => .ld_HL_nn nn
  | .sp, nn => .ld_SP_nn nn

/-- ADD HL,rp[p] (R172; R301). -/
def Instr.addHL : Rp → Instr
  | .bc => .add_HL_BC
  | .de => .add_HL_DE
  | .hl => .add_HL_HL
  | .sp => .add_HL_SP

/-- INC rp[p] (R172; R302). -/
def Instr.incPair : Rp → Instr
  | .bc => .inc_BC
  | .de => .inc_DE
  | .hl => .inc_HL
  | .sp => .inc_SP

/-- DEC rp[p] (R172; R303). -/
def Instr.decPair : Rp → Instr
  | .bc => .dec_BC
  | .de => .dec_DE
  | .hl => .dec_HL
  | .sp => .dec_SP

/-- POP rp2[p] (R172; R223). -/
def Instr.pop : Rp2 → Instr
  | .bc => .pop_BC
  | .de => .pop_DE
  | .hl => .pop_HL
  | .af => .pop_AF

/-- PUSH rp2[p] (R172; R222). -/
def Instr.push : Rp2 → Instr
  | .bc => .push_BC
  | .de => .push_DE
  | .hl => .push_HL
  | .af => .push_AF

/-- JR cc,e (R172; R365). -/
def Instr.jrCond : Cond → Byte → Instr
  | .nz, e => .jr_NZ_e e
  | .z, e => .jr_Z_e e
  | .nc, e => .jr_NC_e e
  | .c, e => .jr_C_e e

/-- JP cc[y],nn (R172; R362). -/
def Instr.jpCond : Cond → Word → Instr
  | .nz, nn => .jp_NZ_nn nn
  | .z, nn => .jp_Z_nn nn
  | .nc, nn => .jp_NC_nn nn
  | .c, nn => .jp_C_nn nn

/-- CALL cc[y],nn (R172; R367). -/
def Instr.callCond : Cond → Word → Instr
  | .nz, nn => .call_NZ_nn nn
  | .z, nn => .call_Z_nn nn
  | .nc, nn => .call_NC_nn nn
  | .c, nn => .call_C_nn nn

/-- RET cc[y] (R172; R369). -/
def Instr.retCond : Cond → Instr
  | .nz => .ret_NZ
  | .z => .ret_Z
  | .nc => .ret_NC
  | .c => .ret_C

/-- RST y*8 (R172; R371). -/
def Instr.rst : Fin 8 → Instr
  | 0 => .rst_00
  | 1 => .rst_08
  | 2 => .rst_10
  | 3 => .rst_18
  | 4 => .rst_20
  | 5 => .rst_28
  | 6 => .rst_30
  | 7 => .rst_38

/-- rot[y] r[z] (R174, x = 0; R325–R340). -/
def Instr.rot : RotOp → Rm → Instr
  | .rlc, .reg .b => .rlc_B
  | .rlc, .reg .c => .rlc_C
  | .rlc, .reg .d => .rlc_D
  | .rlc, .reg .e => .rlc_E
  | .rlc, .reg .h => .rlc_H
  | .rlc, .reg .l => .rlc_L
  | .rlc, .atHL => .rlc_atHL
  | .rlc, .reg .a => .rlc_A
  | .rrc, .reg .b => .rrc_B
  | .rrc, .reg .c => .rrc_C
  | .rrc, .reg .d => .rrc_D
  | .rrc, .reg .e => .rrc_E
  | .rrc, .reg .h => .rrc_H
  | .rrc, .reg .l => .rrc_L
  | .rrc, .atHL => .rrc_atHL
  | .rrc, .reg .a => .rrc_A
  | .rl, .reg .b => .rl_B
  | .rl, .reg .c => .rl_C
  | .rl, .reg .d => .rl_D
  | .rl, .reg .e => .rl_E
  | .rl, .reg .h => .rl_H
  | .rl, .reg .l => .rl_L
  | .rl, .atHL => .rl_atHL
  | .rl, .reg .a => .rl_A
  | .rr, .reg .b => .rr_B
  | .rr, .reg .c => .rr_C
  | .rr, .reg .d => .rr_D
  | .rr, .reg .e => .rr_E
  | .rr, .reg .h => .rr_H
  | .rr, .reg .l => .rr_L
  | .rr, .atHL => .rr_atHL
  | .rr, .reg .a => .rr_A
  | .sla, .reg .b => .sla_B
  | .sla, .reg .c => .sla_C
  | .sla, .reg .d => .sla_D
  | .sla, .reg .e => .sla_E
  | .sla, .reg .h => .sla_H
  | .sla, .reg .l => .sla_L
  | .sla, .atHL => .sla_atHL
  | .sla, .reg .a => .sla_A
  | .sra, .reg .b => .sra_B
  | .sra, .reg .c => .sra_C
  | .sra, .reg .d => .sra_D
  | .sra, .reg .e => .sra_E
  | .sra, .reg .h => .sra_H
  | .sra, .reg .l => .sra_L
  | .sra, .atHL => .sra_atHL
  | .sra, .reg .a => .sra_A
  | .swap, .reg .b => .swap_B
  | .swap, .reg .c => .swap_C
  | .swap, .reg .d => .swap_D
  | .swap, .reg .e => .swap_E
  | .swap, .reg .h => .swap_H
  | .swap, .reg .l => .swap_L
  | .swap, .atHL => .swap_atHL
  | .swap, .reg .a => .swap_A
  | .srl, .reg .b => .srl_B
  | .srl, .reg .c => .srl_C
  | .srl, .reg .d => .srl_D
  | .srl, .reg .e => .srl_E
  | .srl, .reg .h => .srl_H
  | .srl, .reg .l => .srl_L
  | .srl, .atHL => .srl_atHL
  | .srl, .reg .a => .srl_A

/-- BIT y,r[z] (R174, x = 1; R341, R342). -/
def Instr.bit : Fin 8 → Rm → Instr
  | 0, .reg .b => .bit_0_B
  | 0, .reg .c => .bit_0_C
  | 0, .reg .d => .bit_0_D
  | 0, .reg .e => .bit_0_E
  | 0, .reg .h => .bit_0_H
  | 0, .reg .l => .bit_0_L
  | 0, .atHL => .bit_0_atHL
  | 0, .reg .a => .bit_0_A
  | 1, .reg .b => .bit_1_B
  | 1, .reg .c => .bit_1_C
  | 1, .reg .d => .bit_1_D
  | 1, .reg .e => .bit_1_E
  | 1, .reg .h => .bit_1_H
  | 1, .reg .l => .bit_1_L
  | 1, .atHL => .bit_1_atHL
  | 1, .reg .a => .bit_1_A
  | 2, .reg .b => .bit_2_B
  | 2, .reg .c => .bit_2_C
  | 2, .reg .d => .bit_2_D
  | 2, .reg .e => .bit_2_E
  | 2, .reg .h => .bit_2_H
  | 2, .reg .l => .bit_2_L
  | 2, .atHL => .bit_2_atHL
  | 2, .reg .a => .bit_2_A
  | 3, .reg .b => .bit_3_B
  | 3, .reg .c => .bit_3_C
  | 3, .reg .d => .bit_3_D
  | 3, .reg .e => .bit_3_E
  | 3, .reg .h => .bit_3_H
  | 3, .reg .l => .bit_3_L
  | 3, .atHL => .bit_3_atHL
  | 3, .reg .a => .bit_3_A
  | 4, .reg .b => .bit_4_B
  | 4, .reg .c => .bit_4_C
  | 4, .reg .d => .bit_4_D
  | 4, .reg .e => .bit_4_E
  | 4, .reg .h => .bit_4_H
  | 4, .reg .l => .bit_4_L
  | 4, .atHL => .bit_4_atHL
  | 4, .reg .a => .bit_4_A
  | 5, .reg .b => .bit_5_B
  | 5, .reg .c => .bit_5_C
  | 5, .reg .d => .bit_5_D
  | 5, .reg .e => .bit_5_E
  | 5, .reg .h => .bit_5_H
  | 5, .reg .l => .bit_5_L
  | 5, .atHL => .bit_5_atHL
  | 5, .reg .a => .bit_5_A
  | 6, .reg .b => .bit_6_B
  | 6, .reg .c => .bit_6_C
  | 6, .reg .d => .bit_6_D
  | 6, .reg .e => .bit_6_E
  | 6, .reg .h => .bit_6_H
  | 6, .reg .l => .bit_6_L
  | 6, .atHL => .bit_6_atHL
  | 6, .reg .a => .bit_6_A
  | 7, .reg .b => .bit_7_B
  | 7, .reg .c => .bit_7_C
  | 7, .reg .d => .bit_7_D
  | 7, .reg .e => .bit_7_E
  | 7, .reg .h => .bit_7_H
  | 7, .reg .l => .bit_7_L
  | 7, .atHL => .bit_7_atHL
  | 7, .reg .a => .bit_7_A

/-- RES y,r[z] (R174, x = 2; R343, R344). -/
def Instr.res : Fin 8 → Rm → Instr
  | 0, .reg .b => .res_0_B
  | 0, .reg .c => .res_0_C
  | 0, .reg .d => .res_0_D
  | 0, .reg .e => .res_0_E
  | 0, .reg .h => .res_0_H
  | 0, .reg .l => .res_0_L
  | 0, .atHL => .res_0_atHL
  | 0, .reg .a => .res_0_A
  | 1, .reg .b => .res_1_B
  | 1, .reg .c => .res_1_C
  | 1, .reg .d => .res_1_D
  | 1, .reg .e => .res_1_E
  | 1, .reg .h => .res_1_H
  | 1, .reg .l => .res_1_L
  | 1, .atHL => .res_1_atHL
  | 1, .reg .a => .res_1_A
  | 2, .reg .b => .res_2_B
  | 2, .reg .c => .res_2_C
  | 2, .reg .d => .res_2_D
  | 2, .reg .e => .res_2_E
  | 2, .reg .h => .res_2_H
  | 2, .reg .l => .res_2_L
  | 2, .atHL => .res_2_atHL
  | 2, .reg .a => .res_2_A
  | 3, .reg .b => .res_3_B
  | 3, .reg .c => .res_3_C
  | 3, .reg .d => .res_3_D
  | 3, .reg .e => .res_3_E
  | 3, .reg .h => .res_3_H
  | 3, .reg .l => .res_3_L
  | 3, .atHL => .res_3_atHL
  | 3, .reg .a => .res_3_A
  | 4, .reg .b => .res_4_B
  | 4, .reg .c => .res_4_C
  | 4, .reg .d => .res_4_D
  | 4, .reg .e => .res_4_E
  | 4, .reg .h => .res_4_H
  | 4, .reg .l => .res_4_L
  | 4, .atHL => .res_4_atHL
  | 4, .reg .a => .res_4_A
  | 5, .reg .b => .res_5_B
  | 5, .reg .c => .res_5_C
  | 5, .reg .d => .res_5_D
  | 5, .reg .e => .res_5_E
  | 5, .reg .h => .res_5_H
  | 5, .reg .l => .res_5_L
  | 5, .atHL => .res_5_atHL
  | 5, .reg .a => .res_5_A
  | 6, .reg .b => .res_6_B
  | 6, .reg .c => .res_6_C
  | 6, .reg .d => .res_6_D
  | 6, .reg .e => .res_6_E
  | 6, .reg .h => .res_6_H
  | 6, .reg .l => .res_6_L
  | 6, .atHL => .res_6_atHL
  | 6, .reg .a => .res_6_A
  | 7, .reg .b => .res_7_B
  | 7, .reg .c => .res_7_C
  | 7, .reg .d => .res_7_D
  | 7, .reg .e => .res_7_E
  | 7, .reg .h => .res_7_H
  | 7, .reg .l => .res_7_L
  | 7, .atHL => .res_7_atHL
  | 7, .reg .a => .res_7_A

/-- SET y,r[z] (R174, x = 3; R345, R346). -/
def Instr.set : Fin 8 → Rm → Instr
  | 0, .reg .b => .set_0_B
  | 0, .reg .c => .set_0_C
  | 0, .reg .d => .set_0_D
  | 0, .reg .e => .set_0_E
  | 0, .reg .h => .set_0_H
  | 0, .reg .l => .set_0_L
  | 0, .atHL => .set_0_atHL
  | 0, .reg .a => .set_0_A
  | 1, .reg .b => .set_1_B
  | 1, .reg .c => .set_1_C
  | 1, .reg .d => .set_1_D
  | 1, .reg .e => .set_1_E
  | 1, .reg .h => .set_1_H
  | 1, .reg .l => .set_1_L
  | 1, .atHL => .set_1_atHL
  | 1, .reg .a => .set_1_A
  | 2, .reg .b => .set_2_B
  | 2, .reg .c => .set_2_C
  | 2, .reg .d => .set_2_D
  | 2, .reg .e => .set_2_E
  | 2, .reg .h => .set_2_H
  | 2, .reg .l => .set_2_L
  | 2, .atHL => .set_2_atHL
  | 2, .reg .a => .set_2_A
  | 3, .reg .b => .set_3_B
  | 3, .reg .c => .set_3_C
  | 3, .reg .d => .set_3_D
  | 3, .reg .e => .set_3_E
  | 3, .reg .h => .set_3_H
  | 3, .reg .l => .set_3_L
  | 3, .atHL => .set_3_atHL
  | 3, .reg .a => .set_3_A
  | 4, .reg .b => .set_4_B
  | 4, .reg .c => .set_4_C
  | 4, .reg .d => .set_4_D
  | 4, .reg .e => .set_4_E
  | 4, .reg .h => .set_4_H
  | 4, .reg .l => .set_4_L
  | 4, .atHL => .set_4_atHL
  | 4, .reg .a => .set_4_A
  | 5, .reg .b => .set_5_B
  | 5, .reg .c => .set_5_C
  | 5, .reg .d => .set_5_D
  | 5, .reg .e => .set_5_E
  | 5, .reg .h => .set_5_H
  | 5, .reg .l => .set_5_L
  | 5, .atHL => .set_5_atHL
  | 5, .reg .a => .set_5_A
  | 6, .reg .b => .set_6_B
  | 6, .reg .c => .set_6_C
  | 6, .reg .d => .set_6_D
  | 6, .reg .e => .set_6_E
  | 6, .reg .h => .set_6_H
  | 6, .reg .l => .set_6_L
  | 6, .atHL => .set_6_atHL
  | 6, .reg .a => .set_6_A
  | 7, .reg .b => .set_7_B
  | 7, .reg .c => .set_7_C
  | 7, .reg .d => .set_7_D
  | 7, .reg .e => .set_7_E
  | 7, .reg .h => .set_7_H
  | 7, .reg .l => .set_7_L
  | 7, .atHL => .set_7_atHL
  | 7, .reg .a => .set_7_A

/-! ### Decoding -/

/-- An entry of the unprefixed catalog: an instruction of one byte, or of two or three bytes with its
immediate still to fetch (R160, R168–R170). The entry of 0xCB is the second catalog (R175). -/
inductive Entry where
  | one (i : Instr)
  | two (i : Byte → Instr)
  | three (i : Word → Instr)

/-- The length in bytes, fixed by the first byte alone (R160, R175). -/
def Entry.length : Entry → Nat
  | .one _ => 1
  | .two _ => 2
  | .three _ => 3

/-- The CB catalog, indexed by the byte after 0xCB (R174). -/
def decodeCb (b : Byte) : Instr :=
  match (fieldX b).toNat with
  | 0 => Instr.rot (tableRot (fieldY b)) (tableR (fieldZ b))
  | 1 => Instr.bit (fieldY b).toFin (tableR (fieldZ b))
  | 2 => Instr.res (fieldY b).toFin (tableR (fieldZ b))
  | _ => Instr.set (fieldY b).toFin (tableR (fieldZ b))

/-- The group x = 0 of the unprefixed catalog (R172). -/
def decodeX0 (b : Byte) : Entry :=
  match (fieldZ b).toNat with
  | 0 =>
    match (fieldY b).toNat with
    | 0 => .one .nop
    | 1 => .three .ld_atNn_SP
    | 2 => .two .stop
    | 3 => .two .jr_e
    | _ => .two (Instr.jrCond (tableCc (fieldY b)))
  | 1 =>
    if fieldQ b then .one (Instr.addHL (tableRp (fieldP b)))
    else .three (Instr.ldPair (tableRp (fieldP b)))
  | 2 =>
    match (fieldY b).toNat with
    | 0 => .one .ld_atBC_A
    | 1 => .one .ld_A_atBC
    | 2 => .one .ld_atDE_A
    | 3 => .one .ld_A_atDE
    | 4 => .one .ld_atHLi_A
    | 5 => .one .ld_A_atHLi
    | 6 => .one .ld_atHLd_A
    | _ => .one .ld_A_atHLd
  | 3 =>
    if fieldQ b then .one (Instr.decPair (tableRp (fieldP b)))
    else .one (Instr.incPair (tableRp (fieldP b)))
  | 4 => .one (Instr.inc (tableR (fieldY b)))
  | 5 => .one (Instr.dec (tableR (fieldY b)))
  | 6 => .two (Instr.ldImm (tableR (fieldY b)))
  | _ =>
    match (fieldY b).toNat with
    | 0 => .one .rlca
    | 1 => .one .rrca
    | 2 => .one .rla
    | 3 => .one .rra
    | 4 => .one .daa
    | 5 => .one .cpl
    | 6 => .one .scf
    | _ => .one .ccf

/-- The group x = 3 of the unprefixed catalog, with the eleven INVALID slots (R172, R176). -/
def decodeX3 (b : Byte) : Entry :=
  match (fieldZ b).toNat with
  | 0 =>
    match (fieldY b).toNat with
    | 4 => .two .ldh_atN_A
    | 5 => .two .add_SP_e
    | 6 => .two .ldh_A_atN
    | 7 => .two .ld_HL_SPe
    | _ => .one (Instr.retCond (tableCc (fieldY b)))
  | 1 =>
    if fieldQ b then
      match (fieldP b).toNat with
      | 0 => .one .ret
      | 1 => .one .reti
      | 2 => .one .jp_HL
      | _ => .one .ld_SP_HL
    else .one (Instr.pop (tableRp2 (fieldP b)))
  | 2 =>
    match (fieldY b).toNat with
    | 4 => .one .ld_atC_A
    | 5 => .three .ld_atNn_A
    | 6 => .one .ld_A_atC
    | 7 => .three .ld_A_atNn
    | _ => .three (Instr.jpCond (tableCc (fieldY b)))
  | 3 =>
    match (fieldY b).toNat with
    | 0 => .three .jp_nn
    | 1 => .two decodeCb
    | 2 => .one .invalid_D3
    | 3 => .one .invalid_DB
    | 4 => .one .invalid_E3
    | 5 => .one .invalid_EB
    | 6 => .one .di
    | _ => .one .ei
  | 4 =>
    match (fieldY b).toNat with
    | 4 => .one .invalid_E4
    | 5 => .one .invalid_EC
    | 6 => .one .invalid_F4
    | 7 => .one .invalid_FC
    | _ => .three (Instr.callCond (tableCc (fieldY b)))
  | 5 =>
    if fieldQ b then
      match (fieldP b).toNat with
      | 0 => .three .call_nn
      | 1 => .one .invalid_DD
      | 2 => .one .invalid_ED
      | _ => .one .invalid_FD
    else .one (Instr.push (tableRp2 (fieldP b)))
  | 6 => .two (Instr.aluImm (tableAlu (fieldY b)))
  | _ => .one (Instr.rst (fieldY b).toFin)

/-- The unprefixed catalog, indexed by the first byte (R172). -/
def decodeMain (b : Byte) : Entry :=
  match (fieldX b).toNat with
  | 0 => decodeX0 b
  | 1 => .one (Instr.ld (tableR (fieldY b)) (tableR (fieldZ b)))
  | 2 => .one (Instr.alu (tableAlu (fieldY b)) (tableR (fieldZ b)))
  | _ => decodeX3 b

/-- The instruction of an entry, given the two bytes that follow the first; `nn` has its low byte at
the lower address (R169). -/
def Entry.instr : Entry → Byte → Byte → Instr
  | .one i, _, _ => i
  | .two i, b1, _ => i b1
  | .three i, b1, b2 => i (wordOf b2 b1)

/-- The instruction whose bytes begin with `op`, given the two bytes after it: total (R180). -/
def decodeBytes (op b1 b2 : Byte) : Instr := (decodeMain op).instr b1 b2

/-- Why a byte string is no instruction. Every complete one is (R180). -/
inductive DecodeError where
  /-- The string ends before the instruction does. -/
  | truncated
deriving DecidableEq, Repr

/-- Decode the front of a byte string: the instruction and the bytes after it. -/
def decode (bytes : List Byte) : Except DecodeError (Instr × List Byte) :=
  match bytes with
  | [] => .error .truncated
  | op :: rest =>
    match decodeMain op, rest with
    | .one i, rest => .ok (i, rest)
    | .two i, b1 :: rest => .ok (i b1, rest)
    | .three i, b1 :: b2 :: rest => .ok (i (wordOf b2 b1), rest)
    | _, _ => .error .truncated

/-- The three bytes, at rising addresses, of an instruction word as spec/opcode_table.json numbers its
bits. A row of the CB table is the number 0xCBoo, first byte high; in every other row the first byte
holds bits 7:0 (log entry 9). -/
def tableBytes (nbits w : Nat) : Byte × Byte × Byte :=
  if nbits = 16 ∧ w / 256 % 256 = 0xCB then (0xCB, BitVec.ofNat 8 w, 0)
  else
    (BitVec.ofNat 8 (w % 2 ^ nbits), BitVec.ofNat 8 (w % 2 ^ nbits / 256),
      BitVec.ofNat 8 (w % 2 ^ nbits / 65536))

/-- The instruction the decoder reads from an instruction word of the opcode table. -/
def decodeTableWord (nbits w : Nat) : Option Instr :=
  some (decodeBytes (tableBytes nbits w).1 (tableBytes nbits w).2.1 (tableBytes nbits w).2.2)

/-! ### Encoding -/

/-- The bytes of an instruction, first byte first (R173, R174; immediates R168–R170). -/
def encode : Instr → List Byte
  | .nop => [0x00]
  | .ld_BC_nn nn => [0x01, loByte nn, hiByte nn]
  | .ld_atBC_A => [0x02]
  | .inc_BC => [0x03]
  | .inc_B => [0x04]
  | .dec_B => [0x05]
  | .ld_B_n n => [0x06, n]
  | .rlca => [0x07]
  | .ld_atNn_SP nn => [0x08, loByte nn, hiByte nn]
  | .add_HL_BC => [0x09]
  | .ld_A_atBC => [0x0A]
  | .dec_BC => [0x0B]
  | .inc_C => [0x0C]
  | .dec_C => [0x0D]
  | .ld_C_n n => [0x0E, n]
  | .rrca => [0x0F]
  | .stop x => [0x10, x]
  | .ld_DE_nn nn => [0x11, loByte nn, hiByte nn]
  | .ld_atDE_A => [0x12]
  | .inc_DE => [0x13]
  | .inc_D => [0x14]
  | .dec_D => [0x15]
  | .ld_D_n n => [0x16, n]
  | .rla => [0x17]
  | .jr_e e => [0x18, e]
  | .add_HL_DE => [0x19]
  | .ld_A_atDE => [0x1A]
  | .dec_DE => [0x1B]
  | .inc_E => [0x1C]
  | .dec_E => [0x1D]
  | .ld_E_n n => [0x1E, n]
  | .rra => [0x1F]
  | .jr_NZ_e e => [0x20, e]
  | .ld_HL_nn nn => [0x21, loByte nn, hiByte nn]
  | .ld_atHLi_A => [0x22]
  | .inc_HL => [0x23]
  | .inc_H => [0x24]
  | .dec_H => [0x25]
  | .ld_H_n n => [0x26, n]
  | .daa => [0x27]
  | .jr_Z_e e => [0x28, e]
  | .add_HL_HL => [0x29]
  | .ld_A_atHLi => [0x2A]
  | .dec_HL => [0x2B]
  | .inc_L => [0x2C]
  | .dec_L => [0x2D]
  | .ld_L_n n => [0x2E, n]
  | .cpl => [0x2F]
  | .jr_NC_e e => [0x30, e]
  | .ld_SP_nn nn => [0x31, loByte nn, hiByte nn]
  | .ld_atHLd_A => [0x32]
  | .inc_SP => [0x33]
  | .inc_atHL => [0x34]
  | .dec_atHL => [0x35]
  | .ld_atHL_n n => [0x36, n]
  | .scf => [0x37]
  | .jr_C_e e => [0x38, e]
  | .add_HL_SP => [0x39]
  | .ld_A_atHLd => [0x3A]
  | .dec_SP => [0x3B]
  | .inc_A => [0x3C]
  | .dec_A => [0x3D]
  | .ld_A_n n => [0x3E, n]
  | .ccf => [0x3F]
  | .ld_B_B => [0x40]
  | .ld_B_C => [0x41]
  | .ld_B_D => [0x42]
  | .ld_B_E => [0x43]
  | .ld_B_H => [0x44]
  | .ld_B_L => [0x45]
  | .ld_B_atHL => [0x46]
  | .ld_B_A => [0x47]
  | .ld_C_B => [0x48]
  | .ld_C_C => [0x49]
  | .ld_C_D => [0x4A]
  | .ld_C_E => [0x4B]
  | .ld_C_H => [0x4C]
  | .ld_C_L => [0x4D]
  | .ld_C_atHL => [0x4E]
  | .ld_C_A => [0x4F]
  | .ld_D_B => [0x50]
  | .ld_D_C => [0x51]
  | .ld_D_D => [0x52]
  | .ld_D_E => [0x53]
  | .ld_D_H => [0x54]
  | .ld_D_L => [0x55]
  | .ld_D_atHL => [0x56]
  | .ld_D_A => [0x57]
  | .ld_E_B => [0x58]
  | .ld_E_C => [0x59]
  | .ld_E_D => [0x5A]
  | .ld_E_E => [0x5B]
  | .ld_E_H => [0x5C]
  | .ld_E_L => [0x5D]
  | .ld_E_atHL => [0x5E]
  | .ld_E_A => [0x5F]
  | .ld_H_B => [0x60]
  | .ld_H_C => [0x61]
  | .ld_H_D => [0x62]
  | .ld_H_E => [0x63]
  | .ld_H_H => [0x64]
  | .ld_H_L => [0x65]
  | .ld_H_atHL => [0x66]
  | .ld_H_A => [0x67]
  | .ld_L_B => [0x68]
  | .ld_L_C => [0x69]
  | .ld_L_D => [0x6A]
  | .ld_L_E => [0x6B]
  | .ld_L_H => [0x6C]
  | .ld_L_L => [0x6D]
  | .ld_L_atHL => [0x6E]
  | .ld_L_A => [0x6F]
  | .ld_atHL_B => [0x70]
  | .ld_atHL_C => [0x71]
  | .ld_atHL_D => [0x72]
  | .ld_atHL_E => [0x73]
  | .ld_atHL_H => [0x74]
  | .ld_atHL_L => [0x75]
  | .halt => [0x76]
  | .ld_atHL_A => [0x77]
  | .ld_A_B => [0x78]
  | .ld_A_C => [0x79]
  | .ld_A_D => [0x7A]
  | .ld_A_E => [0x7B]
  | .ld_A_H => [0x7C]
  | .ld_A_L => [0x7D]
  | .ld_A_atHL => [0x7E]
  | .ld_A_A => [0x7F]
  | .add_A_B => [0x80]
  | .add_A_C => [0x81]
  | .add_A_D => [0x82]
  | .add_A_E => [0x83]
  | .add_A_H => [0x84]
  | .add_A_L => [0x85]
  | .add_A_atHL => [0x86]
  | .add_A_A => [0x87]
  | .adc_A_B => [0x88]
  | .adc_A_C => [0x89]
  | .adc_A_D => [0x8A]
  | .adc_A_E => [0x8B]
  | .adc_A_H => [0x8C]
  | .adc_A_L => [0x8D]
  | .adc_A_atHL => [0x8E]
  | .adc_A_A => [0x8F]
  | .sub_B => [0x90]
  | .sub_C => [0x91]
  | .sub_D => [0x92]
  | .sub_E => [0x93]
  | .sub_H => [0x94]
  | .sub_L => [0x95]
  | .sub_atHL => [0x96]
  | .sub_A => [0x97]
  | .sbc_A_B => [0x98]
  | .sbc_A_C => [0x99]
  | .sbc_A_D => [0x9A]
  | .sbc_A_E => [0x9B]
  | .sbc_A_H => [0x9C]
  | .sbc_A_L => [0x9D]
  | .sbc_A_atHL => [0x9E]
  | .sbc_A_A => [0x9F]
  | .and_B => [0xA0]
  | .and_C => [0xA1]
  | .and_D => [0xA2]
  | .and_E => [0xA3]
  | .and_H => [0xA4]
  | .and_L => [0xA5]
  | .and_atHL => [0xA6]
  | .and_A => [0xA7]
  | .xor_B => [0xA8]
  | .xor_C => [0xA9]
  | .xor_D => [0xAA]
  | .xor_E => [0xAB]
  | .xor_H => [0xAC]
  | .xor_L => [0xAD]
  | .xor_atHL => [0xAE]
  | .xor_A => [0xAF]
  | .or_B => [0xB0]
  | .or_C => [0xB1]
  | .or_D => [0xB2]
  | .or_E => [0xB3]
  | .or_H => [0xB4]
  | .or_L => [0xB5]
  | .or_atHL => [0xB6]
  | .or_A => [0xB7]
  | .cp_B => [0xB8]
  | .cp_C => [0xB9]
  | .cp_D => [0xBA]
  | .cp_E => [0xBB]
  | .cp_H => [0xBC]
  | .cp_L => [0xBD]
  | .cp_atHL => [0xBE]
  | .cp_A => [0xBF]
  | .ret_NZ => [0xC0]
  | .pop_BC => [0xC1]
  | .jp_NZ_nn nn => [0xC2, loByte nn, hiByte nn]
  | .jp_nn nn => [0xC3, loByte nn, hiByte nn]
  | .call_NZ_nn nn => [0xC4, loByte nn, hiByte nn]
  | .push_BC => [0xC5]
  | .add_A_n n => [0xC6, n]
  | .rst_00 => [0xC7]
  | .ret_Z => [0xC8]
  | .ret => [0xC9]
  | .jp_Z_nn nn => [0xCA, loByte nn, hiByte nn]
  | .prefixCb => [0xCB]
  | .call_Z_nn nn => [0xCC, loByte nn, hiByte nn]
  | .call_nn nn => [0xCD, loByte nn, hiByte nn]
  | .adc_A_n n => [0xCE, n]
  | .rst_08 => [0xCF]
  | .ret_NC => [0xD0]
  | .pop_DE => [0xD1]
  | .jp_NC_nn nn => [0xD2, loByte nn, hiByte nn]
  | .invalid_D3 => [0xD3]
  | .call_NC_nn nn => [0xD4, loByte nn, hiByte nn]
  | .push_DE => [0xD5]
  | .sub_n n => [0xD6, n]
  | .rst_10 => [0xD7]
  | .ret_C => [0xD8]
  | .reti => [0xD9]
  | .jp_C_nn nn => [0xDA, loByte nn, hiByte nn]
  | .invalid_DB => [0xDB]
  | .call_C_nn nn => [0xDC, loByte nn, hiByte nn]
  | .invalid_DD => [0xDD]
  | .sbc_A_n n => [0xDE, n]
  | .rst_18 => [0xDF]
  | .ldh_atN_A n => [0xE0, n]
  | .pop_HL => [0xE1]
  | .ld_atC_A => [0xE2]
  | .invalid_E3 => [0xE3]
  | .invalid_E4 => [0xE4]
  | .push_HL => [0xE5]
  | .and_n n => [0xE6, n]
  | .rst_20 => [0xE7]
  | .add_SP_e e => [0xE8, e]
  | .jp_HL => [0xE9]
  | .ld_atNn_A nn => [0xEA, loByte nn, hiByte nn]
  | .invalid_EB => [0xEB]
  | .invalid_EC => [0xEC]
  | .invalid_ED => [0xED]
  | .xor_n n => [0xEE, n]
  | .rst_28 => [0xEF]
  | .ldh_A_atN n => [0xF0, n]
  | .pop_AF => [0xF1]
  | .ld_A_atC => [0xF2]
  | .di => [0xF3]
  | .invalid_F4 => [0xF4]
  | .push_AF => [0xF5]
  | .or_n n => [0xF6, n]
  | .rst_30 => [0xF7]
  | .ld_HL_SPe e => [0xF8, e]
  | .ld_SP_HL => [0xF9]
  | .ld_A_atNn nn => [0xFA, loByte nn, hiByte nn]
  | .ei => [0xFB]
  | .invalid_FC => [0xFC]
  | .invalid_FD => [0xFD]
  | .cp_n n => [0xFE, n]
  | .rst_38 => [0xFF]
  | .rlc_B => [0xCB, 0x00]
  | .rlc_C => [0xCB, 0x01]
  | .rlc_D => [0xCB, 0x02]
  | .rlc_E => [0xCB, 0x03]
  | .rlc_H => [0xCB, 0x04]
  | .rlc_L => [0xCB, 0x05]
  | .rlc_atHL => [0xCB, 0x06]
  | .rlc_A => [0xCB, 0x07]
  | .rrc_B => [0xCB, 0x08]
  | .rrc_C => [0xCB, 0x09]
  | .rrc_D => [0xCB, 0x0A]
  | .rrc_E => [0xCB, 0x0B]
  | .rrc_H => [0xCB, 0x0C]
  | .rrc_L => [0xCB, 0x0D]
  | .rrc_atHL => [0xCB, 0x0E]
  | .rrc_A => [0xCB, 0x0F]
  | .rl_B => [0xCB, 0x10]
  | .rl_C => [0xCB, 0x11]
  | .rl_D => [0xCB, 0x12]
  | .rl_E => [0xCB, 0x13]
  | .rl_H => [0xCB, 0x14]
  | .rl_L => [0xCB, 0x15]
  | .rl_atHL => [0xCB, 0x16]
  | .rl_A => [0xCB, 0x17]
  | .rr_B => [0xCB, 0x18]
  | .rr_C => [0xCB, 0x19]
  | .rr_D => [0xCB, 0x1A]
  | .rr_E => [0xCB, 0x1B]
  | .rr_H => [0xCB, 0x1C]
  | .rr_L => [0xCB, 0x1D]
  | .rr_atHL => [0xCB, 0x1E]
  | .rr_A => [0xCB, 0x1F]
  | .sla_B => [0xCB, 0x20]
  | .sla_C => [0xCB, 0x21]
  | .sla_D => [0xCB, 0x22]
  | .sla_E => [0xCB, 0x23]
  | .sla_H => [0xCB, 0x24]
  | .sla_L => [0xCB, 0x25]
  | .sla_atHL => [0xCB, 0x26]
  | .sla_A => [0xCB, 0x27]
  | .sra_B => [0xCB, 0x28]
  | .sra_C => [0xCB, 0x29]
  | .sra_D => [0xCB, 0x2A]
  | .sra_E => [0xCB, 0x2B]
  | .sra_H => [0xCB, 0x2C]
  | .sra_L => [0xCB, 0x2D]
  | .sra_atHL => [0xCB, 0x2E]
  | .sra_A => [0xCB, 0x2F]
  | .swap_B => [0xCB, 0x30]
  | .swap_C => [0xCB, 0x31]
  | .swap_D => [0xCB, 0x32]
  | .swap_E => [0xCB, 0x33]
  | .swap_H => [0xCB, 0x34]
  | .swap_L => [0xCB, 0x35]
  | .swap_atHL => [0xCB, 0x36]
  | .swap_A => [0xCB, 0x37]
  | .srl_B => [0xCB, 0x38]
  | .srl_C => [0xCB, 0x39]
  | .srl_D => [0xCB, 0x3A]
  | .srl_E => [0xCB, 0x3B]
  | .srl_H => [0xCB, 0x3C]
  | .srl_L => [0xCB, 0x3D]
  | .srl_atHL => [0xCB, 0x3E]
  | .srl_A => [0xCB, 0x3F]
  | .bit_0_B => [0xCB, 0x40]
  | .bit_0_C => [0xCB, 0x41]
  | .bit_0_D => [0xCB, 0x42]
  | .bit_0_E => [0xCB, 0x43]
  | .bit_0_H => [0xCB, 0x44]
  | .bit_0_L => [0xCB, 0x45]
  | .bit_0_atHL => [0xCB, 0x46]
  | .bit_0_A => [0xCB, 0x47]
  | .bit_1_B => [0xCB, 0x48]
  | .bit_1_C => [0xCB, 0x49]
  | .bit_1_D => [0xCB, 0x4A]
  | .bit_1_E => [0xCB, 0x4B]
  | .bit_1_H => [0xCB, 0x4C]
  | .bit_1_L => [0xCB, 0x4D]
  | .bit_1_atHL => [0xCB, 0x4E]
  | .bit_1_A => [0xCB, 0x4F]
  | .bit_2_B => [0xCB, 0x50]
  | .bit_2_C => [0xCB, 0x51]
  | .bit_2_D => [0xCB, 0x52]
  | .bit_2_E => [0xCB, 0x53]
  | .bit_2_H => [0xCB, 0x54]
  | .bit_2_L => [0xCB, 0x55]
  | .bit_2_atHL => [0xCB, 0x56]
  | .bit_2_A => [0xCB, 0x57]
  | .bit_3_B => [0xCB, 0x58]
  | .bit_3_C => [0xCB, 0x59]
  | .bit_3_D => [0xCB, 0x5A]
  | .bit_3_E => [0xCB, 0x5B]
  | .bit_3_H => [0xCB, 0x5C]
  | .bit_3_L => [0xCB, 0x5D]
  | .bit_3_atHL => [0xCB, 0x5E]
  | .bit_3_A => [0xCB, 0x5F]
  | .bit_4_B => [0xCB, 0x60]
  | .bit_4_C => [0xCB, 0x61]
  | .bit_4_D => [0xCB, 0x62]
  | .bit_4_E => [0xCB, 0x63]
  | .bit_4_H => [0xCB, 0x64]
  | .bit_4_L => [0xCB, 0x65]
  | .bit_4_atHL => [0xCB, 0x66]
  | .bit_4_A => [0xCB, 0x67]
  | .bit_5_B => [0xCB, 0x68]
  | .bit_5_C => [0xCB, 0x69]
  | .bit_5_D => [0xCB, 0x6A]
  | .bit_5_E => [0xCB, 0x6B]
  | .bit_5_H => [0xCB, 0x6C]
  | .bit_5_L => [0xCB, 0x6D]
  | .bit_5_atHL => [0xCB, 0x6E]
  | .bit_5_A => [0xCB, 0x6F]
  | .bit_6_B => [0xCB, 0x70]
  | .bit_6_C => [0xCB, 0x71]
  | .bit_6_D => [0xCB, 0x72]
  | .bit_6_E => [0xCB, 0x73]
  | .bit_6_H => [0xCB, 0x74]
  | .bit_6_L => [0xCB, 0x75]
  | .bit_6_atHL => [0xCB, 0x76]
  | .bit_6_A => [0xCB, 0x77]
  | .bit_7_B => [0xCB, 0x78]
  | .bit_7_C => [0xCB, 0x79]
  | .bit_7_D => [0xCB, 0x7A]
  | .bit_7_E => [0xCB, 0x7B]
  | .bit_7_H => [0xCB, 0x7C]
  | .bit_7_L => [0xCB, 0x7D]
  | .bit_7_atHL => [0xCB, 0x7E]
  | .bit_7_A => [0xCB, 0x7F]
  | .res_0_B => [0xCB, 0x80]
  | .res_0_C => [0xCB, 0x81]
  | .res_0_D => [0xCB, 0x82]
  | .res_0_E => [0xCB, 0x83]
  | .res_0_H => [0xCB, 0x84]
  | .res_0_L => [0xCB, 0x85]
  | .res_0_atHL => [0xCB, 0x86]
  | .res_0_A => [0xCB, 0x87]
  | .res_1_B => [0xCB, 0x88]
  | .res_1_C => [0xCB, 0x89]
  | .res_1_D => [0xCB, 0x8A]
  | .res_1_E => [0xCB, 0x8B]
  | .res_1_H => [0xCB, 0x8C]
  | .res_1_L => [0xCB, 0x8D]
  | .res_1_atHL => [0xCB, 0x8E]
  | .res_1_A => [0xCB, 0x8F]
  | .res_2_B => [0xCB, 0x90]
  | .res_2_C => [0xCB, 0x91]
  | .res_2_D => [0xCB, 0x92]
  | .res_2_E => [0xCB, 0x93]
  | .res_2_H => [0xCB, 0x94]
  | .res_2_L => [0xCB, 0x95]
  | .res_2_atHL => [0xCB, 0x96]
  | .res_2_A => [0xCB, 0x97]
  | .res_3_B => [0xCB, 0x98]
  | .res_3_C => [0xCB, 0x99]
  | .res_3_D => [0xCB, 0x9A]
  | .res_3_E => [0xCB, 0x9B]
  | .res_3_H => [0xCB, 0x9C]
  | .res_3_L => [0xCB, 0x9D]
  | .res_3_atHL => [0xCB, 0x9E]
  | .res_3_A => [0xCB, 0x9F]
  | .res_4_B => [0xCB, 0xA0]
  | .res_4_C => [0xCB, 0xA1]
  | .res_4_D => [0xCB, 0xA2]
  | .res_4_E => [0xCB, 0xA3]
  | .res_4_H => [0xCB, 0xA4]
  | .res_4_L => [0xCB, 0xA5]
  | .res_4_atHL => [0xCB, 0xA6]
  | .res_4_A => [0xCB, 0xA7]
  | .res_5_B => [0xCB, 0xA8]
  | .res_5_C => [0xCB, 0xA9]
  | .res_5_D => [0xCB, 0xAA]
  | .res_5_E => [0xCB, 0xAB]
  | .res_5_H => [0xCB, 0xAC]
  | .res_5_L => [0xCB, 0xAD]
  | .res_5_atHL => [0xCB, 0xAE]
  | .res_5_A => [0xCB, 0xAF]
  | .res_6_B => [0xCB, 0xB0]
  | .res_6_C => [0xCB, 0xB1]
  | .res_6_D => [0xCB, 0xB2]
  | .res_6_E => [0xCB, 0xB3]
  | .res_6_H => [0xCB, 0xB4]
  | .res_6_L => [0xCB, 0xB5]
  | .res_6_atHL => [0xCB, 0xB6]
  | .res_6_A => [0xCB, 0xB7]
  | .res_7_B => [0xCB, 0xB8]
  | .res_7_C => [0xCB, 0xB9]
  | .res_7_D => [0xCB, 0xBA]
  | .res_7_E => [0xCB, 0xBB]
  | .res_7_H => [0xCB, 0xBC]
  | .res_7_L => [0xCB, 0xBD]
  | .res_7_atHL => [0xCB, 0xBE]
  | .res_7_A => [0xCB, 0xBF]
  | .set_0_B => [0xCB, 0xC0]
  | .set_0_C => [0xCB, 0xC1]
  | .set_0_D => [0xCB, 0xC2]
  | .set_0_E => [0xCB, 0xC3]
  | .set_0_H => [0xCB, 0xC4]
  | .set_0_L => [0xCB, 0xC5]
  | .set_0_atHL => [0xCB, 0xC6]
  | .set_0_A => [0xCB, 0xC7]
  | .set_1_B => [0xCB, 0xC8]
  | .set_1_C => [0xCB, 0xC9]
  | .set_1_D => [0xCB, 0xCA]
  | .set_1_E => [0xCB, 0xCB]
  | .set_1_H => [0xCB, 0xCC]
  | .set_1_L => [0xCB, 0xCD]
  | .set_1_atHL => [0xCB, 0xCE]
  | .set_1_A => [0xCB, 0xCF]
  | .set_2_B => [0xCB, 0xD0]
  | .set_2_C => [0xCB, 0xD1]
  | .set_2_D => [0xCB, 0xD2]
  | .set_2_E => [0xCB, 0xD3]
  | .set_2_H => [0xCB, 0xD4]
  | .set_2_L => [0xCB, 0xD5]
  | .set_2_atHL => [0xCB, 0xD6]
  | .set_2_A => [0xCB, 0xD7]
  | .set_3_B => [0xCB, 0xD8]
  | .set_3_C => [0xCB, 0xD9]
  | .set_3_D => [0xCB, 0xDA]
  | .set_3_E => [0xCB, 0xDB]
  | .set_3_H => [0xCB, 0xDC]
  | .set_3_L => [0xCB, 0xDD]
  | .set_3_atHL => [0xCB, 0xDE]
  | .set_3_A => [0xCB, 0xDF]
  | .set_4_B => [0xCB, 0xE0]
  | .set_4_C => [0xCB, 0xE1]
  | .set_4_D => [0xCB, 0xE2]
  | .set_4_E => [0xCB, 0xE3]
  | .set_4_H => [0xCB, 0xE4]
  | .set_4_L => [0xCB, 0xE5]
  | .set_4_atHL => [0xCB, 0xE6]
  | .set_4_A => [0xCB, 0xE7]
  | .set_5_B => [0xCB, 0xE8]
  | .set_5_C => [0xCB, 0xE9]
  | .set_5_D => [0xCB, 0xEA]
  | .set_5_E => [0xCB, 0xEB]
  | .set_5_H => [0xCB, 0xEC]
  | .set_5_L => [0xCB, 0xED]
  | .set_5_atHL => [0xCB, 0xEE]
  | .set_5_A => [0xCB, 0xEF]
  | .set_6_B => [0xCB, 0xF0]
  | .set_6_C => [0xCB, 0xF1]
  | .set_6_D => [0xCB, 0xF2]
  | .set_6_E => [0xCB, 0xF3]
  | .set_6_H => [0xCB, 0xF4]
  | .set_6_L => [0xCB, 0xF5]
  | .set_6_atHL => [0xCB, 0xF6]
  | .set_6_A => [0xCB, 0xF7]
  | .set_7_B => [0xCB, 0xF8]
  | .set_7_C => [0xCB, 0xF9]
  | .set_7_D => [0xCB, 0xFA]
  | .set_7_E => [0xCB, 0xFB]
  | .set_7_H => [0xCB, 0xFC]
  | .set_7_L => [0xCB, 0xFD]
  | .set_7_atHL => [0xCB, 0xFE]
  | .set_7_A => [0xCB, 0xFF]

end Sys2Proof
end

