-- ==== Sys2Proof/Config.lean ====
section
/-!
DEFINITION. What is fixed for one machine and what the spec leaves open: the sizes of R7, the
accesses the bus records (R6, R72, R133, R137), the free values of R8 that a step reads
(constants with no body), and the parameters a construction takes as arguments (R8, R460).
-/

namespace Sys2Proof

/-- An access to the I/O region or to a cartridge register, which the bus records in order (R6). -/
inductive BusEvent where
  /-- `IoRd(addr, value)`: a read of an unmodelled I/O address (R72). -/
  | ioRd (addr : Word) (value : Byte)
  /-- `IoWr(addr, v)`: a write of an unmodelled I/O address (R72). -/
  | ioWr (addr : Word) (v : Byte)
  /-- A read of one of the two registers of the core inside the I/O region, IF or the boot-ROM unmap
  register (R6, R73, R74). -/
  | regRd (addr : Word) (value : Byte)
  /-- A write of IF or of the boot-ROM unmap register (R6, R73, R74). -/
  | regWr (addr : Word) (v : Byte)
  /-- A write that selects a mapper register (R6, R82, R116, R126, R133, R141). -/
  | mapperWr (addr : Word) (v : Byte)
  /-- `RtcLatch(v)`: a write to the clock-latch range of an MBC3 (R133). -/
  | rtcLatch (v : Byte)
  /-- A read of the clock register SEL of an MBC3 (R6, R136). -/
  | rtcRd (sel : BitVec 4) (value : Byte)
  /-- `RtcWrite(SEL, v)`: a write to a clock register of an MBC3 (R137). -/
  | rtcWrite (sel : BitVec 4) (v : Byte)
deriving DecidableEq, Repr

namespace Config

/-- VRAM holds 8192 bytes (R7, R35). -/
def vramSize : Nat := 8192
/-- WRAM holds 8192 bytes (R7, R35). -/
def wramSize : Nat := 8192
/-- OAM holds 160 bytes (R7, R35). -/
def oamSize : Nat := 160
/-- HRAM holds 127 bytes (R7, R35). -/
def hramSize : Nat := 127
/-- The boot buffer holds 256 bytes (R7, R35). -/
def bootSize : Nat := 256
/-- The built-in RAM of an MBC2 has 512 cells (R125). -/
def ram2Size : Nat := 512

/-- `UNUSABLE_SENTINEL`, the one fixed value read from 0xFEA0–0xFEFF, which the spec leaves open
(R8, R71, I6). No body: nothing can be proved of its value. -/
opaque unusableSentinel : Byte

/-- `IoRead(addr, history)`, the value an unmodelled I/O address gives (R8, R72, I7). The history is
the list of recorded events, newest first; every such read adds one, so no two reads of a run share
their arguments. No body. -/
opaque ioRead : Word → List BusEvent → Byte

/-- `RtcRead(reg)`, the value an MBC3 clock register gives (R8, R136, I10). The second argument is the
list of recorded events, newest first; every such read adds one, so that two reads need not agree (R82).
No body. -/
opaque rtcRead : BitVec 4 → List BusEvent → Byte

/-- `REG_INIT`, the draw of A,F,B,C,D,E,H,L,SP when a boot image is present (R8, R464). -/
structure RegInit where
  a : Byte
  f : Byte
  b : Byte
  c : Byte
  d : Byte
  e : Byte
  h : Byte
  l : Byte
  sp : Word
deriving DecidableEq, Repr

/-- The parameters of R8 that only a construction reads. -/
structure Params where
  /-- `STRICT_BOOT_VALIDATION` (R98 (e), R462). -/
  strictBootValidation : Bool
  /-- `CART_RAM_INIT` (R469). -/
  cartRamInit : List Byte
  /-- `REG_INIT` (R464). -/
  regInit : RegInit
  /-- `RECOGNIZED_CART_TYPES` (R99). -/
  recognizedTypes : List Byte
deriving DecidableEq, Repr

/-- The default `RECOGNIZED_CART_TYPES` (R99, D23). -/
def defaultCartTypes : List Byte :=
  [0x00, 0x01, 0x02, 0x03, 0x05, 0x06, 0x0F, 0x10, 0x11, 0x12, 0x13,
   0x19, 0x1A, 0x1B, 0x1C, 0x1D, 0x1E]

end Config

end Sys2Proof
end

