-- ==== Sys2Proof/Machine/State.lean ====
section
/-!
DEFINITION. The state of the CORE block, one structure per hardware unit of R2, as plain data: the
register file (R20), the CPU control state (R29–R32), the interrupt controller (R33), the bus (R34,
R35) and the cartridge (R36); the reasons a step can stop; and the state right after reset.
-/

namespace Sys2Proof.Machine

/-- Memory as a sorted list of (index, byte) pairs; an index that is not listed reads as the
memory's default. The canonical form is `Memory.wf` of Machine/Memory.lean. -/
abbrev Memory := List Host.Cell

/-- The four Boolean flags of F (R23). -/
structure Flags where
  z : Bool
  n : Bool
  h : Bool
  c : Bool
deriving DecidableEq, Repr

/-- The register file: eight 8-bit registers, SP and PC (R20, R27, R28). The pair views are no
storage of their own (R22). -/
structure RegisterFile where
  a : Byte
  f : Byte
  b : Byte
  c : Byte
  d : Byte
  e : Byte
  h : Byte
  l : Byte
  sp : Word
  pc : Word
deriving DecidableEq, Repr

/-- An opcode value as the fault reports it: one byte, or 0xCB followed by the second byte (R32). -/
inductive OpcodeValue where
  | plain (op : Byte)
  | prefixed (op2 : Byte)
deriving DecidableEq, Repr

/-- `InvalidOpcode(op, addr)`, the one fault of a running machine (R32, R410, R411). -/
structure InvalidOpcode where
  op : OpcodeValue
  addr : Word
deriving DecidableEq, Repr

/-- What one step reports to its caller: `Ok(n)` with the T-cycle count, or `Stopped(f)` (R390). -/
inductive StepResult where
  | ok (cycles : Nat)
  | stopped (f : InvalidOpcode)
deriving DecidableEq, Repr

/-- The interrupt controller: IE stores eight bits, IF five request bits (R33). -/
structure InterruptController where
  ie : Byte
  ifr : BitVec 5
deriving DecidableEq, Repr

/-- The registers of an MBC1 (R115). -/
structure Mbc1 where
  ramg : Bool
  bank1 : BitVec 5
  bank2 : BitVec 2
  mode : Bool
deriving DecidableEq, Repr

/-- The registers of an MBC2 (R125). -/
structure Mbc2 where
  ramg : Bool
  romb : BitVec 4
deriving DecidableEq, Repr

/-- The registers of an MBC3 (R130). -/
structure Mbc3 where
  ramg : Bool
  romb : BitVec 7
  sel : BitVec 4
deriving DecidableEq, Repr

/-- The registers of an MBC5 (R140). -/
structure Mbc5 where
  ramg : Bool
  romb : BitVec 9
  ramb : BitVec 4
deriving DecidableEq, Repr

/-- The mapper variant a cartridge-type byte selects, with its registers (R99). `hasClock` holds of
types 0x0F and 0x10 (R136), `rumble` of types 0x1C–0x1E (R141). -/
inductive Mapper where
  | noMapper
  | mbc1 (r : Mbc1)
  | mbc2 (r : Mbc2)
  | mbc3 (hasClock : Bool) (r : Mbc3)
  | mbc5 (rumble : Bool) (r : Mbc5)
deriving DecidableEq, Repr

/-- The cartridge (R36): the immutable ROM image of `romLen` bytes (an index that is not listed reads
0x00, R100), the bank count and RAM size its header declares (R95, R96), its RAM (CRAM of R102, or
the four-bit cells RAM2 of an MBC2, R125) and its mapper. -/
structure Cartridge where
  rom : Memory
  romLen : Nat
  romBanks : Nat
  ramSize : Nat
  ram : Memory
  mapper : Mapper
deriving DecidableEq, Repr

/-- The bus (R34, R35): four RAM arrays, the read-only boot buffer and BOOT_MAPPED. `events` is the
record of R6, newest first; it also supplies the free values of `Config.ioRead` and `Config.rtcRead`. -/
structure Bus where
  vram : Memory
  wram : Memory
  oam : Memory
  hram : Memory
  boot : Memory
  bootMapped : Bool
  events : List BusEvent
deriving DecidableEq, Repr

/-- The state of the machine. `report` is what the last step returned, none before the first (R390,
R429): an output, which no rule reads (R475). -/
structure State where
  regs : RegisterFile
  ime : Bool
  imeSched : Bool
  halted : Bool
  fault : Option InvalidOpcode
  irq : InterruptController
  bus : Bus
  cart : Cartridge
  report : Option StepResult
deriving DecidableEq, Repr

/-- The reasons a step stops. -/
inductive Fault where
  /-- `Stopped(InvalidOpcode(op, addr))`: raised by `cycle` in every step that begins with FAULT set
  (R390, R411). Safe: the spec gives such a step no effect at all. -/
  | invalidOpcode (f : InvalidOpcode)
deriving DecidableEq, Repr

/-- The reasons a step is refused. -/
inductive Refusal where
  /-- No meaning yet for the instruction of this mnemonic: answered by `exec`'s arms only. Safe: the
  machine stops. No arm answers it in this model. -/
  | notModelled (mnemonic : String)
deriving DecidableEq, Repr

/-- The outcome of a meaning or of a step. -/
abbrev Result := Host.Outcome State Fault Refusal

/-- The registers after reset with no boot image (R463, R465). -/
def RegisterFile.reset : RegisterFile where
  a := 0x01
  f := 0xB0
  b := 0x00
  c := 0x13
  d := 0x00
  e := 0xD8
  h := 0x01
  l := 0x4D
  sp := 0xFFFE
  pc := 0x0100

/-- The bus after reset with no boot image: all RAM zero, the boot buffer zero and not mapped (R461,
R462, R463). -/
def Bus.reset : Bus where
  vram := []
  wram := []
  oam := []
  hram := []
  boot := []
  bootMapped := false
  events := []

/-- The cartridge of `State.reset`, a DESIGN CHOICE (log entry 2): a blank 32 KiB image, whose zero
header bytes declare no mapper, two banks and no RAM (R95, R96, R99). -/
def Cartridge.blank : Cartridge where
  rom := []
  romLen := 0x8000
  romBanks := 2
  ramSize := 0
  ram := []
  mapper := .noMapper

/-- The machine right after the construction with no boot image (R460, R463, R465–R469). -/
def State.reset : State where
  regs := RegisterFile.reset
  ime := false
  imeSched := false
  halted := false
  fault := none
  irq := { ie := 0x00, ifr := 0 }
  bus := Bus.reset
  cart := Cartridge.blank
  report := none

end Sys2Proof.Machine
end

