-- ==== Sys2Proof/Machine/Flags.lean ====
section
/-!
DEFINITION. Every flag computation of the spec: F as four flags (R23), the 8-bit adder, subtracter and
logic (R250–R252), increment and decrement (R277, R279), DAA (R281), the 16-bit adds (R300, R301), the
shifts and rotates (R324), BIT (R341) and the conditions (R360).
-/

namespace Sys2Proof.Machine

/-- `F = (ZF << 7) | (NF << 6) | (HF << 5) | (CF << 4)` (R23). -/
def Flags.toF (fl : Flags) : Byte :=
  (if fl.z then 0x80 else 0x00) ||| (if fl.n then 0x40 else 0x00) |||
    (if fl.h then 0x20 else 0x00) ||| (if fl.c then 0x10 else 0x00)

/-- The flags of an F byte (R23). -/
def Flags.ofF (f : Byte) : Flags where
  z := f.getLsbD 7
  n := f.getLsbD 6
  h := f.getLsbD 5
  c := f.getLsbD 4

/-- `Add8(a, b, c)` (R250). -/
def add8 (a b : Byte) (c : Bool) : Byte × Flags :=
  let t := a.toNat + b.toNat + c.toNat
  let res := BitVec.ofNat 8 t
  (res,
    { z := res == 0
      n := false
      h := decide ((a &&& 0x0F).toNat + (b &&& 0x0F).toNat + c.toNat > 0x0F)
      c := decide (t > 0xFF) })

/-- `Sub8(a, b, c)` (R251). -/
def sub8 (a b : Byte) (c : Bool) : Byte × Flags :=
  let t : Int := a.toNat - b.toNat - c.toNat
  let res := BitVec.ofInt 8 t
  (res,
    { z := res == 0
      n := true
      h := decide (((a &&& 0x0F).toNat : Int) - (b &&& 0x0F).toNat - c.toNat < 0)
      c := decide (t < 0) })

/-- `And8(a, b)` (R252). -/
def and8 (a b : Byte) : Byte × Flags :=
  (a &&& b, { z := a &&& b == 0, n := false, h := true, c := false })

/-- `Xor8(a, b)` (R252). -/
def xor8 (a b : Byte) : Byte × Flags :=
  (a ^^^ b, { z := a ^^^ b == 0, n := false, h := false, c := false })

/-- `Or8(a, b)` (R252). -/
def or8 (a b : Byte) : Byte × Flags :=
  (a ||| b, { z := a ||| b == 0, n := false, h := false, c := false })

/-- The new A and the flags of `alu` with operand `v`, given A and the carry flag; CP keeps A (R253–R276). -/
def alu8 (op : AluOp) (a v : Byte) (cf : Bool) : Byte × Flags :=
  match op with
  | .add => add8 a v false
  | .adc => add8 a v cf
  | .sub => sub8 a v false
  | .sbc => sub8 a v cf
  | .and => and8 a v
  | .xor => xor8 a v
  | .or => or8 a v
  | .cp => (a, (sub8 a v false).2)

/-- The increment of a byte; the carry flag is kept (R277). -/
def inc8 (v : Byte) (fl : Flags) : Byte × Flags :=
  (v + 1, { z := v + 1 == 0, n := false, h := v &&& 0x0F == 0x0F, c := fl.c })

/-- The decrement of a byte; the carry flag is kept (R279). -/
def dec8 (v : Byte) (fl : Flags) : Byte × Flags :=
  (v - 1, { z := v - 1 == 0, n := true, h := v &&& 0x0F == 0x00, c := fl.c })

/-- Whether DAA corrects the high digit: after an addition by the carry or a value above 0x99, after a
subtraction by the carry (R281). -/
def daaHigh (a : Byte) (fl : Flags) : Bool :=
  if fl.n then fl.c else fl.c || decide (a.toNat > 0x99)

/-- Whether DAA corrects the low digit of the (possibly corrected) value (R281). -/
def daaLow (a : Byte) (fl : Flags) : Bool :=
  if fl.n then fl.h else fl.h || decide ((a &&& 0x0F).toNat > 0x09)

/-- DAA (R281). -/
def daa8 (a : Byte) (fl : Flags) : Byte × Flags :=
  let a1 := if daaHigh a fl then (if fl.n then a - 0x60 else a + 0x60) else a
  let a2 := if daaLow a1 fl then (if fl.n then a1 - 0x06 else a1 + 0x06) else a1
  (a2, { z := a2 == 0, n := fl.n, h := false, c := if fl.n then fl.c else daaHigh a fl })

/-- ADD HL,rr; the zero flag is kept (R301). -/
def add16 (a b : Word) (fl : Flags) : Word × Flags :=
  (BitVec.ofNat 16 (a.toNat + b.toNat),
    { z := fl.z
      n := false
      h := decide ((a &&& 0x0FFF).toNat + (b &&& 0x0FFF).toNat > 0x0FFF)
      c := decide (a.toNat + b.toNat > 0xFFFF) })

/-- `AddSPe(e)` (R300). -/
def addSpe (sp : Word) (e : Byte) : Word × Flags :=
  (sp + sext16 e,
    { z := false
      n := false
      h := decide ((sp &&& 0x000F).toNat + (e &&& 0x0F).toNat > 0x0F)
      c := decide ((sp &&& 0x00FF).toNat + e.toNat > 0xFF) })

/-- A Boolean as the byte 0 or 1. -/
def bitByte (b : Bool) : Byte := if b then 0x01 else 0x00

/-- The result of `Rot(k, v)` (R324). -/
def rotResult (k : RotOp) (v : Byte) (cf : Bool) : Byte :=
  match k with
  | .rlc => (v <<< 1) ||| bitByte (v.getLsbD 7)
  | .rrc => (v >>> 1) ||| (bitByte (v.getLsbD 0) <<< 7)
  | .rl => (v <<< 1) ||| bitByte cf
  | .rr => (v >>> 1) ||| (bitByte cf <<< 7)
  | .sla => v <<< 1
  | .sra => (v >>> 1) ||| (v &&& 0x80)
  | .swap => ((v &&& 0x0F) <<< 4) ||| (v >>> 4)
  | .srl => v >>> 1

/-- The bit that `Rot(k, v)` leaves in the carry flag (R324). -/
def rotCarry (k : RotOp) (v : Byte) : Bool :=
  match k with
  | .rlc => v.getLsbD 7
  | .rrc => v.getLsbD 0
  | .rl => v.getLsbD 7
  | .rr => v.getLsbD 0
  | .sla => v.getLsbD 7
  | .sra => v.getLsbD 0
  | .swap => false
  | .srl => v.getLsbD 0

/-- `Rot(k, v)` with its flags (R324). -/
def rot8 (k : RotOp) (v : Byte) (cf : Bool) : Byte × Flags :=
  (rotResult k v cf, { z := rotResult k v cf == 0, n := false, h := false, c := rotCarry k v })

/-- The rotates of the accumulator: those of `Rot`, but Z is cleared (R320–R323). -/
def rotA8 (k : RotOp) (a : Byte) (cf : Bool) : Byte × Flags :=
  (rotResult k a cf, { z := false, n := false, h := false, c := rotCarry k a })

/-- The flags of BIT: Z is the complement of the tested bit, the carry is kept (R341). -/
def bitFlags (b : Fin 8) (v : Byte) (fl : Flags) : Flags :=
  { z := !v.getLsbD b, n := false, h := true, c := fl.c }

/-- `v & ~(1 << b)` (R343). -/
def resBit (b : Fin 8) (v : Byte) : Byte := v &&& ~~~ ((0x01 : Byte) <<< b.val)

/-- `v | (1 << b)` (R345). -/
def setBit (b : Fin 8) (v : Byte) : Byte := v ||| ((0x01 : Byte) <<< b.val)

/-- `cond(k)` (R360). -/
def condHolds (k : Cond) (fl : Flags) : Bool :=
  match k with
  | .nz => !fl.z
  | .z => fl.z
  | .nc => !fl.c
  | .c => fl.c

end Sys2Proof.Machine
end

