-- ==== Sys2Proof/Machine/Memory.lean ====
section
/-!
DEFINITION. The operations over one memory array: a list of (index, byte) pairs in canonical form,
with a default `d` that an unlisted index reads as.
-/

namespace Sys2Proof.Machine

/-- The byte at index `i`; `d` where nothing is listed. -/
def Memory.read (d : Byte) : Memory → Nat → Byte
  | [], _ => d
  | (k, w) :: rest, i => if k = i then w else Memory.read d rest i

/-- Store `v` at index `i`. Storing the default removes the entry, so equal contents are equal lists. -/
def Memory.write (d : Byte) : Memory → Nat → Byte → Memory
  | [], i, v => if v = d then [] else [(i, v)]
  | (k, w) :: rest, i, v =>
    if i < k then (if v = d then (k, w) :: rest else (i, v) :: (k, w) :: rest)
    else if i = k then (if v = d then rest else (i, v) :: rest)
    else (k, w) :: Memory.write d rest i v

/-- The canonical form: indexes strictly rising, and no entry equal to the default. -/
def Memory.wf (d : Byte) : Memory → Bool
  | [] => true
  | (k, w) :: rest => w != d && rest.all (fun c => k < c.1) && Memory.wf d rest

/-- Every listed index lies below the array's size. -/
def Memory.within (size : Nat) (m : Memory) : Bool :=
  m.all (fun c => c.1 < size)

/-- The memory that holds `bytes` from index `i` on. -/
def Memory.ofBytes (d : Byte) : Nat → List Byte → Memory
  | _, [] => []
  | i, b :: rest =>
    if b = d then Memory.ofBytes d (i + 1) rest else (i, b) :: Memory.ofBytes d (i + 1) rest

end Sys2Proof.Machine
end

