-- ==== Sys2Proof/Machine/Cartridge.lean ====
section
/-!
DEFINITION. The cartridge: the header fields (R91–R97), the address helpers of R101 and R102, and the
four operations the bus calls (R90), for each mapper variant (R110–R146).
-/

namespace Sys2Proof.Machine

/-! ### The header (R91–R97), read from the bytes of a ROM image -/

/-- The byte of the image at a fixed offset; a construction never asks past the end of an image it
accepts (R98 (a)). -/
def imageByte (image : List Byte) (offset : Nat) : Byte := image.getD offset 0xFF

/-- `n` bytes of the image from an offset on. -/
def imageBytes (image : List Byte) (offset n : Nat) : List Byte := (image.drop offset).take n

/-- The licensee: the old single byte, or the new two-character form (R94). -/
inductive Licensee where
  | old (code : Byte)
  | new (code : List Byte)
deriving DecidableEq, Repr

/-- The header fields (R91). All but the cartridge type and the two size codes are informational. -/
structure Header where
  entryPoint : List Byte
  logo : List Byte
  cgb : Bool
  title : List Char
  manufacturer : List Byte
  licensee : Licensee
  sgbFlag : Byte
  cartType : Byte
  romSizeCode : Byte
  ramSizeCode : Byte
  region : Byte
  version : Byte
  headerChecksum : Byte
  globalChecksum : List Byte
deriving DecidableEq, Repr

/-- The color flag: bit 7 of the byte at 0x0143 (R93). -/
def headerCgb (image : List Byte) : Bool := (imageByte image 0x0143).getLsbD 7

/-- The title: the bytes from 0x0134 up to the first 0x00 or the end of the field, which is 11 bytes
with the color flag and 15 without it, read as ASCII (R93). -/
def headerTitle (image : List Byte) : List Char :=
  ((imageBytes image 0x0134 (if headerCgb image then 11 else 15)).takeWhile (· != 0x00)).map
    (fun b => Char.ofNat b.toNat)

/-- The licensee (R94). -/
def headerLicensee (image : List Byte) : Licensee :=
  if imageByte image 0x014B = 0x33 then .new (imageBytes image 0x0144 2)
  else .old (imageByte image 0x014B)

/-- The header of an image (R91). -/
def headerOf (image : List Byte) : Header where
  entryPoint := imageBytes image 0x0100 4
  logo := imageBytes image 0x0104 48
  cgb := headerCgb image
  title := headerTitle image
  manufacturer := imageBytes image 0x013F 4
  licensee := headerLicensee image
  sgbFlag := imageByte image 0x0146
  cartType := imageByte image 0x0147
  romSizeCode := imageByte image 0x0148
  ramSizeCode := imageByte image 0x0149
  region := imageByte image 0x014A
  version := imageByte image 0x014C
  headerChecksum := imageByte image 0x014D
  globalChecksum := imageBytes image 0x014E 2

/-- The header checksum: `x <- x - ROM[a] - 1` over 0x0134–0x014C, modulo 256 (R97). -/
def checksumOf (image : List Byte) : Byte :=
  (imageBytes image 0x0134 25).foldl (fun x b => x - b - 1) 0

/-- `IsHeaderChecksumValid` (R97): informational, it never stops a load. -/
def isHeaderChecksumValid (image : List Byte) : Bool :=
  checksumOf image == imageByte image 0x014D

/-- The number of ROM banks a size code declares, for the codes 0x00–0x08 (R95). -/
def romBanksOfCode (code : Byte) : Option Nat :=
  if code.toNat ≤ 8 then some (2 * 2 ^ code.toNat) else none

/-- The RAM size in bytes a size code declares (R96). -/
def ramSizeOfCode (code : Byte) : Option Nat :=
  match code.toNat with
  | 0 => some 0
  | 1 => some 2048
  | 2 => some 8192
  | 3 => some 32768
  | 4 => some 131072
  | 5 => some 65536
  | _ => none

/-- The mapper variant of a cartridge-type byte, with its registers at their reset values (R99, R112,
R115, R125, R130, R140, R468). -/
def mapperOfType (t : Byte) : Option Mapper :=
  match t.toNat with
  | 0x00 => some .noMapper
  | 0x01 | 0x02 | 0x03 =>
    some (.mbc1 { ramg := false, bank1 := 1, bank2 := 0, mode := false })
  | 0x05 | 0x06 => some (.mbc2 { ramg := false, romb := 1 })
  | 0x0F | 0x10 => some (.mbc3 true { ramg := false, romb := 1, sel := 0 })
  | 0x11 | 0x12 | 0x13 => some (.mbc3 false { ramg := false, romb := 1, sel := 0 })
  | 0x19 | 0x1A | 0x1B => some (.mbc5 false { ramg := false, romb := 1, ramb := 0 })
  | 0x1C | 0x1D | 0x1E => some (.mbc5 true { ramg := false, romb := 1, ramb := 0 })
  | _ => none

/-! ### Reading ROM -/

/-- The bank that the window 0x0000–0x3FFF shows, before the reduction of R101 (R110, R117, R126, R133,
R142). -/
def Mapper.lowBank : Mapper → Nat
  | .noMapper => 0
  | .mbc1 r => if r.mode then (r.bank2 ++ (0 : BitVec 5)).toNat else 0
  | .mbc2 _ => 0
  | .mbc3 _ _ => 0
  | .mbc5 _ _ => 0

/-- The bank that the window 0x4000–0x7FFF shows, before the reduction of R101 (R110, R118, R126, R133,
R142). -/
def Mapper.highBank : Mapper → Nat
  | .noMapper => 1
  | .mbc1 r => (r.bank2 ++ r.bank1).toNat
  | .mbc2 r => r.romb.toNat
  | .mbc3 _ r => r.romb.toNat
  | .mbc5 _ r => r.romb.toNat

/-- The place in the image of `off14` in `bank`, with the bank reduced modulo the declared count (R101). -/
def Cartridge.romIndex (c : Cartridge) (bank off14 : Nat) : Nat :=
  (bank % c.romBanks) * 0x4000 + off14

/-- `RomByte(bank, off14)`: past the end of a short image it is 0xFF (R101). -/
def Cartridge.romByte (c : Cartridge) (bank off14 : Nat) : Byte :=
  if c.romIndex bank off14 < c.romLen then Memory.read 0x00 c.rom (c.romIndex bank off14) else 0xFF

/-- The bank that a ROM address reads (R110, R117, R118, R126, R133, R142). -/
def Cartridge.bankAt (c : Cartridge) (a : Word) : Nat :=
  if a.toNat < 0x4000 then c.mapper.lowBank else c.mapper.highBank

/-- `ReadRom(addr)` (R90). -/
def Cartridge.readRom (c : Cartridge) (a : Word) : Byte :=
  c.romByte (c.bankAt a) (a.toNat % 0x4000)

/-! ### Writing the mapper registers -/

/-- The RAM-enable test of MBC1, MBC2 and MBC3: the low four bits are 0xA (R116, R126, R133). -/
def lowNibbleIsA (v : Byte) : Bool := (v &&& 0x0F) == 0x0A

/-- MBC1 `WriteRom` (R116). -/
def Mbc1.write (r : Mbc1) (a : Word) (v : Byte) : Mbc1 :=
  if a.toNat < 0x2000 then { r with ramg := lowNibbleIsA v }
  else if a.toNat < 0x4000 then
    { r with bank1 := if v.setWidth 5 = 0 then 1 else v.setWidth 5 }
  else if a.toNat < 0x6000 then { r with bank2 := v.setWidth 2 }
  else { r with mode := v.getLsbD 0 }

/-- MBC2 `WriteRom` (R126). -/
def Mbc2.write (r : Mbc2) (a : Word) (v : Byte) : Mbc2 :=
  if a.toNat < 0x4000 then
    if a.getLsbD 8 then { r with romb := if v.setWidth 4 = 0 then 1 else v.setWidth 4 }
    else { r with ramg := lowNibbleIsA v }
  else r

/-- MBC3 `WriteRom`; a write to 0x6000–0x7FFF changes no core state (R133). -/
def Mbc3.write (r : Mbc3) (a : Word) (v : Byte) : Mbc3 :=
  if a.toNat < 0x2000 then { r with ramg := lowNibbleIsA v }
  else if a.toNat < 0x4000 then
    { r with romb := if v.setWidth 7 = 0 then 1 else v.setWidth 7 }
  else if a.toNat < 0x6000 then { r with sel := v.setWidth 4 }
  else r

/-- MBC5 `WriteRom`; with a rumble motor, bit 3 of RAMB is ignored (R141). -/
def Mbc5.write (rumble : Bool) (r : Mbc5) (a : Word) (v : Byte) : Mbc5 :=
  if a.toNat < 0x2000 then { r with ramg := v == 0x0A }
  else if a.toNat < 0x3000 then { r with romb := r.romb.extractLsb' 8 1 ++ v }
  else if a.toNat < 0x4000 then
    { r with romb := BitVec.ofBool (v.getLsbD 0) ++ r.romb.setWidth 8 }
  else if a.toNat < 0x6000 then
    { r with ramb := if rumble then (v &&& 0x07).setWidth 4 else v.setWidth 4 }
  else r

/-- The mapper after `WriteRom(addr, v)` (R111, R116, R126, R133, R141). -/
def Mapper.writeRom (m : Mapper) (a : Word) (v : Byte) : Mapper :=
  match m with
  | .noMapper => .noMapper
  | .mbc1 r => .mbc1 (r.write a v)
  | .mbc2 r => .mbc2 (r.write a v)
  | .mbc3 hasClock r => .mbc3 hasClock (r.write a v)
  | .mbc5 rumble r => .mbc5 rumble (r.write rumble a v)

/-- The events `WriteRom(addr, v)` records: the write of a mapper register, or the clock latch of an MBC3;
none where the address selects no register (R6, R111, R116, R126, R133, R141). -/
def Mapper.writeRomEvents (m : Mapper) (a : Word) (v : Byte) : List BusEvent :=
  match m with
  | .noMapper => []
  | .mbc1 _ => [.mapperWr a v]
  | .mbc2 _ => if a.toNat < 0x4000 then [.mapperWr a v] else []
  | .mbc3 _ _ => if a.toNat < 0x6000 then [.mapperWr a v] else [.rtcLatch v]
  | .mbc5 _ _ => if a.toNat < 0x6000 then [.mapperWr a v] else []

/-! ### Cartridge RAM -/

/-- What an address of 0xA000–0xBFFF reaches. -/
inductive RamTarget where
  /-- Nothing: a read gives 0xFF, a write is discarded. -/
  | absent
  /-- The RAM cell of this index. -/
  | cell (i : Nat)
  /-- The clock register of this number (R136). -/
  | clock (sel : BitVec 4)
deriving DecidableEq, Repr

/-- `RamIndex(bank, addr)`, for `ramSize > 0` (R102). -/
def Cartridge.ramIndex (c : Cartridge) (bank : Nat) (a : Word) : Nat :=
  (bank * 0x2000 + a.toNat % 0x2000) % c.ramSize

/-- The external RAM cell of `bank`, when RAM is enabled and exists (R102, R122, R123, R145). -/
def Cartridge.externalRam (c : Cartridge) (enabled : Bool) (bank : Nat) (a : Word) : RamTarget :=
  if enabled && c.ramSize != 0 then .cell (c.ramIndex bank a) else .absent

/-- What `ReadRam` and `WriteRam` reach (R113, R122, R123, R127, R128, R136, R137, R145). -/
def Cartridge.ramTarget (c : Cartridge) (a : Word) : RamTarget :=
  match c.mapper with
  | .noMapper => .absent
  | .mbc1 r => c.externalRam r.ramg (if r.mode then r.bank2.toNat else 0) a
  | .mbc2 r => if r.ramg then .cell (a.toNat % Config.ram2Size) else .absent
  | .mbc3 hasClock r =>
    if r.sel.toNat ≤ 0x03 then c.externalRam r.ramg r.sel.toNat a
    else if r.ramg && hasClock && (0x08 ≤ r.sel.toNat && r.sel.toNat ≤ 0x0C) then .clock r.sel
    else .absent
  | .mbc5 _ r => c.externalRam r.ramg r.ramb.toNat a

/-- The byte a RAM cell reads as: the four-bit cells of an MBC2 read with the upper bits 1 (R122, R127,
R136, R145). -/
def Cartridge.readRamCell (c : Cartridge) (i : Nat) : Byte :=
  match c.mapper with
  | .mbc2 _ => 0xF0 ||| (Memory.read 0x00 c.ram i &&& 0x0F)
  | _ => Memory.read 0x00 c.ram i

/-- Store to a RAM cell: the cells of an MBC2 keep four bits (R123, R128, R137, R145). -/
def Cartridge.writeRamCell (c : Cartridge) (i : Nat) (v : Byte) : Cartridge :=
  match c.mapper with
  | .mbc2 _ => { c with ram := Memory.write 0x00 c.ram i (v &&& 0x0F) }
  | _ => { c with ram := Memory.write 0x00 c.ram i v }

end Sys2Proof.Machine
end

