-- ==== Sys2Proof/Machine/Ops.lean ====
section
/-!
DEFINITION. The operations shared by every instruction: the address decoder and the bus (R60–R82), the
fetch of a byte (R11), the stack (R88, R89), the completion of an instruction, the two exceptional
entries (interrupt dispatch R419, the InvalidOpcode fault R411) and the return from an interrupt (R370).
-/

namespace Sys2Proof.Machine

/-! ### The address decoder -/

/-- The rows of the memory map (R62). -/
inductive Region where
  | lowRom | rom | vram | cartRam | wram | echo | oam | unusable | io | ifReg | unmapReg | hram | ieReg
deriving DecidableEq, Repr

/-- The row of the memory map an address falls in: every address in exactly one (R61, R62, C1). -/
def region (a : Word) : Region :=
  if a.toNat < 0x0100 then .lowRom
  else if a.toNat < 0x8000 then .rom
  else if a.toNat < 0xA000 then .vram
  else if a.toNat < 0xC000 then .cartRam
  else if a.toNat < 0xE000 then .wram
  else if a.toNat < 0xFE00 then .echo
  else if a.toNat < 0xFEA0 then .oam
  else if a.toNat < 0xFF00 then .unusable
  else if a.toNat = 0xFF0F then .ifReg
  else if a.toNat = 0xFF50 then .unmapReg
  else if a.toNat < 0xFF80 then .io
  else if a.toNat < 0xFFFF then .hram
  else .ieReg

/-- A writable memory cell, by the array that holds it. -/
inductive CellId where
  | vram (i : Nat)
  | wram (i : Nat)
  | oam (i : Nat)
  | hram (i : Nat)
  | cartRam (i : Nat)
deriving DecidableEq, Repr

/-- What an access to an address reaches, in a given state. -/
inductive Target where
  /-- The boot buffer, while it is mapped (R63). -/
  | boot
  /-- Cartridge ROM at 0x0000–0x00FF, where writes never reach the mapper (R63, R64). -/
  | lowRom
  /-- Cartridge ROM at 0x0100–0x7FFF (R65). -/
  | rom
  /-- A cell of a RAM array (R66–R70, R75). -/
  | cell (c : CellId)
  /-- An MBC3 clock register (R136, R137). -/
  | clock (sel : BitVec 4)
  /-- Cartridge RAM that is absent or disabled (R113, R122, R127, R136, R145). -/
  | absent
  /-- 0xFEA0–0xFEFF (R71). -/
  | unusable
  /-- An unmodelled I/O address (R72). -/
  | io
  /-- IF at 0xFF0F (R73). -/
  | ifReg
  /-- The boot-ROM unmap register at 0xFF50 (R74). -/
  | unmapReg
  /-- IE at 0xFFFF (R76). -/
  | ieReg
deriving DecidableEq, Repr

/-- What an address of cartridge RAM reaches (R67). -/
def cartRamTarget (t : RamTarget) : Target :=
  match t with
  | .absent => .absent
  | .cell i => .cell (.cartRam i)
  | .clock sel => .clock sel

/-- What an access reaches (R62–R76). The echo shows WRAM (R69). -/
def target (a : Word) (s : State) : Target :=
  match region a with
  | .lowRom => if s.bus.bootMapped then .boot else .lowRom
  | .rom => .rom
  | .vram => .cell (.vram (a.toNat - 0x8000))
  | .cartRam => cartRamTarget (s.cart.ramTarget a)
  | .wram => .cell (.wram (a.toNat - 0xC000))
  | .echo => .cell (.wram (a.toNat - 0xE000))
  | .oam => .cell (.oam (a.toNat - 0xFE00))
  | .unusable => .unusable
  | .io => .io
  | .ifReg => .ifReg
  | .unmapReg => .unmapReg
  | .hram => .cell (.hram (a.toNat - 0xFF80))
  | .ieReg => .ieReg

/-- The byte a cell reads as. -/
def readCell (c : CellId) (s : State) : Byte :=
  match c with
  | .vram i => Memory.read 0x00 s.bus.vram i
  | .wram i => Memory.read 0x00 s.bus.wram i
  | .oam i => Memory.read 0x00 s.bus.oam i
  | .hram i => Memory.read 0x00 s.bus.hram i
  | .cartRam i => s.cart.readRamCell i

/-- Store to a cell. -/
def writeCell (c : CellId) (v : Byte) (s : State) : State :=
  match c with
  | .vram i => { s with bus := { s.bus with vram := Memory.write 0x00 s.bus.vram i v } }
  | .wram i => { s with bus := { s.bus with wram := Memory.write 0x00 s.bus.wram i v } }
  | .oam i => { s with bus := { s.bus with oam := Memory.write 0x00 s.bus.oam i v } }
  | .hram i => { s with bus := { s.bus with hram := Memory.write 0x00 s.bus.hram i v } }
  | .cartRam i => { s with cart := s.cart.writeRamCell i v }

/-- Record one access (R6, R72). -/
def logEvent (ev : BusEvent) (s : State) : State :=
  { s with bus := { s.bus with events := ev :: s.bus.events } }

/-! ### The bus -/

/-- A read of IF: bits 7:5 read as 1 (R73). -/
def ifByte (ifr : BitVec 5) : Byte := (0b111 : BitVec 3) ++ ifr

/-- The byte a read of the address gives (R63–R76), where an unmodelled I/O address gives `io` and a
clock register `clock`. -/
def busValue (io clock : Byte) (a : Word) (s : State) : Byte :=
  match target a s with
  | .boot => Memory.read 0x00 s.bus.boot a.toNat
  | .lowRom => s.cart.readRom a
  | .rom => s.cart.readRom a
  | .cell c => readCell c s
  | .clock _ => clock
  | .absent => 0xFF
  | .unusable => Config.unusableSentinel
  | .io => io
  | .ifReg => ifByte s.irq.ifr
  | .unmapReg => 0xFF
  | .ieReg => s.irq.ie

/-- The value the environment gives a read of an unmodelled I/O address now (R72). -/
def ioValue (a : Word) (s : State) : Byte := Config.ioRead a s.bus.events

/-- The value the environment gives a read of the selected clock register now (R136). -/
def clockValue (a : Word) (s : State) : Byte :=
  match target a s with
  | .clock sel => Config.rtcRead sel s.bus.events
  | _ => 0x00

/-- The byte a CPU read gives (R11, R63–R76). -/
def readValue (a : Word) (s : State) : Byte := busValue (ioValue a s) (clockValue a s) a s

/-- The state after a CPU read: a read of the I/O region or of a clock register is recorded, and every
other read has no side effect (R6, R72, R82). -/
def afterRead (a : Word) (s : State) : State :=
  match target a s with
  | .io => logEvent (.ioRd a (ioValue a s)) s
  | .ifReg => logEvent (.regRd a (readValue a s)) s
  | .unmapReg => logEvent (.regRd a (readValue a s)) s
  | .clock sel => logEvent (.rtcRd sel (clockValue a s)) s
  | _ => s

/-- `MemRead(addr, 1)` (R11). -/
def memRead (a : Word) (s : State) : Byte × State := (readValue a s, afterRead a s)

/-- `Peek(addr)`: what a read would give, recording nothing and changing nothing; at the unmodelled I/O
addresses its value is unspecified, and `unspecified` stands for it (R77, I9). -/
def peek (unspecified : Byte) (a : Word) (s : State) : Byte :=
  busValue unspecified (clockValue a s) a s

/-- `Cart.WriteRom(addr, v)`: the mapper registers change and no ROM byte does; the access is recorded
(R6, R65, R90). -/
def writeRom (a : Word) (v : Byte) (s : State) : State :=
  { s with
    cart := { s.cart with mapper := s.cart.mapper.writeRom a v }
    bus := { s.bus with events := s.cart.mapper.writeRomEvents a v ++ s.bus.events } }

/-- `MemWrite(addr, 1, v)` (R11, R64–R76). -/
def memWrite (a : Word) (v : Byte) (s : State) : State :=
  match target a s with
  | .boot => s
  | .lowRom => s
  | .rom => writeRom a v s
  | .cell c => writeCell c v s
  | .clock sel => logEvent (.rtcWrite sel v) s
  | .absent => s
  | .unusable => s
  | .io => logEvent (.ioWr a v) s
  | .ifReg => logEvent (.regWr a v) { s with irq := { s.irq with ifr := v.setWidth 5 } }
  | .unmapReg =>
    logEvent (.regWr a v)
      (if v = 0x00 then s else { s with bus := { s.bus with bootMapped := false } })
  | .ieReg => { s with irq := { s.irq with ie := v } }

/-- `MemWrite(addr, 2, v)`: the low byte, then the high byte at the next address (R11, R78, R80). -/
def memWrite16 (a : Word) (v : Word) (s : State) : State :=
  memWrite (a + 1) (hiByte v) (memWrite a (loByte v) s)

/-! ### Fetching and the stack -/

/-- The state with PC replaced. -/
def State.setPc (s : State) (pc : Word) : State := { s with regs := { s.regs with pc := pc } }

/-- The state with SP replaced. -/
def State.setSp (s : State) (sp : Word) : State := { s with regs := { s.regs with sp := sp } }

/-- `Fetch8()`: the byte at PC, and PC one further (R11, R27). -/
def fetch8 (s : State) : Byte × State :=
  (readValue s.regs.pc s, (afterRead s.regs.pc s).setPc (s.regs.pc + 1))

/-- One byte of a push: SP goes down by one, then the byte is stored there (R88). -/
def push8 (v : Byte) (s : State) : State :=
  memWrite (s.regs.sp - 1) v (s.setSp (s.regs.sp - 1))

/-- `Push16(v)`: the high byte first (R88). -/
def push16 (v : Word) (s : State) : State := push8 (loByte v) (push8 (hiByte v) s)

/-- One byte of a pop: the byte at SP, and SP goes up by one (R89). -/
def pop8 (s : State) : Byte × State :=
  (readValue s.regs.sp s, (afterRead s.regs.sp s).setSp (s.regs.sp + 1))

/-- `Pop16()`: the low byte first (R89). -/
def pop16 (s : State) : Word × State :=
  (wordOf (pop8 (pop8 s).2).1 (pop8 s).1, (pop8 (pop8 s).2).2)

/-! ### Completing an instruction -/

/-- The instruction is complete and its step reports this many T-cycles (R390, R475). -/
def finish (cycles : Nat) (s : State) : Result := .next { s with report := some (.ok cycles) }

/-! ### Interrupts -/

/-- The five interrupt sources (R413). -/
inductive IrqSource where
  | vblank | lcdStat | timer | serial | joypad
deriving DecidableEq, Repr

/-- The index of a source, which is its bit in IE and IF (R413). -/
def IrqSource.index : IrqSource → Nat
  | .vblank => 0
  | .lcdStat => 1
  | .timer => 2
  | .serial => 3
  | .joypad => 4

/-- The service vector `0x0040 + 8 * k` (R413). -/
def IrqSource.vector (k : IrqSource) : Word := 0x0040 + 8 * BitVec.ofNat 16 k.index

/-- The bit of a source in IF (R413). -/
def IrqSource.mask (k : IrqSource) : BitVec 5 := BitVec.twoPow 5 k.index

/-- `IE & IF & 0x1F` (R415). -/
def pending (s : State) : BitVec 5 := s.irq.ie.setWidth 5 &&& s.irq.ifr

/-- The source served first: the lowest pending index (R417). -/
def firstPending (p : BitVec 5) : Option IrqSource :=
  if p.getLsbD 0 then some .vblank
  else if p.getLsbD 1 then some .lcdStat
  else if p.getLsbD 2 then some .timer
  else if p.getLsbD 3 then some .serial
  else if p.getLsbD 4 then some .joypad
  else none

/-- `Enable(k)` (R414). -/
def InterruptController.enable (c : InterruptController) (k : IrqSource) : InterruptController :=
  { c with ie := c.ie ||| k.mask.setWidth 8 }

/-- `Disable(k)` (R414). -/
def InterruptController.disable (c : InterruptController) (k : IrqSource) : InterruptController :=
  { c with ie := c.ie &&& ~~~ k.mask.setWidth 8 }

/-- `Request(k)` (R414). -/
def InterruptController.request (c : InterruptController) (k : IrqSource) : InterruptController :=
  { c with ifr := c.ifr ||| k.mask }

/-- `Acknowledge(k)` (R414). -/
def InterruptController.acknowledge (c : InterruptController) (k : IrqSource) : InterruptController :=
  { c with ifr := c.ifr &&& ~~~ k.mask }

/-- `IsEnabled(k)` (R414). -/
def InterruptController.isEnabled (c : InterruptController) (k : IrqSource) : Bool :=
  c.ie.getLsbD k.index

/-- `IsRequested(k)` (R414). -/
def InterruptController.isRequested (c : InterruptController) (k : IrqSource) : Bool :=
  c.ifr.getLsbD k.index

/-! ### The exceptional entries, and the return -/

/-- `Dispatch()` of source `k`: acknowledge it, turn interrupts off, push PC and go to the vector
(R419). -/
def dispatchInterrupt (k : IrqSource) (s : State) : State :=
  (push16 s.regs.pc
    { s with irq := s.irq.acknowledge k, ime := false, imeSched := false }).setPc k.vector

/-- The return from an interrupt handler: pop PC and schedule the enable of IME (R370). -/
def returnFromInterrupt (s : State) : State :=
  { (pop16 s).2.setPc (pop16 s).1 with imeSched := true }

/-- `raise InvalidOpcode(op, addr)`: FAULT is set and the step reports `Stopped`; nothing else changes
(R411). -/
def raiseInvalidOpcode (op : OpcodeValue) (addr : Word) (s : State) : Result :=
  .next { s with
    fault := some { op := op, addr := addr }
    report := some (.stopped { op := op, addr := addr }) }

end Sys2Proof.Machine
end

