-- ==== Sys2Proof/Machine/Operands.lean ====
section
/-!
DEFINITION. Reading and writing operands: the registers by name and the pair views (R20–R25), the flags
as a whole (R21, R23), and the operand forms of table `r`, `rp` and `rp2` (R162–R164, R171).
-/

namespace Sys2Proof.Machine

/-- The 8-bit register names (R25). -/
inductive Reg8 where
  | a | f | b | c | d | e | h | l
deriving DecidableEq, Repr

/-- The 16-bit register names (R25). -/
inductive Reg16 where
  | af | bc | de | hl | sp | pc
deriving DecidableEq, Repr

/-- The flag names (R25). -/
inductive FlagName where
  | z | n | h | c
deriving DecidableEq, Repr

/-- Read an 8-bit register (R20). -/
def RegisterFile.get8 (r : RegisterFile) : Reg8 → Byte
  | .a => r.a
  | .f => r.f
  | .b => r.b
  | .c => r.c
  | .d => r.d
  | .e => r.e
  | .h => r.h
  | .l => r.l

/-- Write an 8-bit register; every write of F masks its low nibble to zero (R20, R21). -/
def RegisterFile.set8 (r : RegisterFile) (x : Reg8) (v : Byte) : RegisterFile :=
  match x with
  | .a => { r with a := v }
  | .f => { r with f := v &&& 0xF0 }
  | .b => { r with b := v }
  | .c => { r with c := v }
  | .d => { r with d := v }
  | .e => { r with e := v }
  | .h => { r with h := v }
  | .l => { r with l := v }

/-- Read a pair view, SP or PC (R22, R27, R28). -/
def RegisterFile.get16 (r : RegisterFile) : Reg16 → Word
  | .af => wordOf r.a r.f
  | .bc => wordOf r.b r.c
  | .de => wordOf r.d r.e
  | .hl => wordOf r.h r.l
  | .sp => r.sp
  | .pc => r.pc

/-- Write a pair view, SP or PC: a view writes both its halves, and AF masks F (R21, R22). -/
def RegisterFile.set16 (r : RegisterFile) (x : Reg16) (v : Word) : RegisterFile :=
  match x with
  | .af => (r.set8 .a (hiByte v)).set8 .f (loByte v)
  | .bc => (r.set8 .b (hiByte v)).set8 .c (loByte v)
  | .de => (r.set8 .d (hiByte v)).set8 .e (loByte v)
  | .hl => (r.set8 .h (hiByte v)).set8 .l (loByte v)
  | .sp => { r with sp := v }
  | .pc => { r with pc := v }

/-- The four flags (R23). -/
def RegisterFile.flags (r : RegisterFile) : Flags := Flags.ofF r.f

/-- Write all four flags (R21, R23). -/
def RegisterFile.setFlags (r : RegisterFile) (fl : Flags) : RegisterFile := r.set8 .f fl.toF

/-- Read one flag (R23). -/
def RegisterFile.getFlag (r : RegisterFile) : FlagName → Bool
  | .z => r.flags.z
  | .n => r.flags.n
  | .h => r.flags.h
  | .c => r.flags.c

/-- `ZF <- b` and the like: write one flag without touching the others (R10, R23). -/
def RegisterFile.setFlag (r : RegisterFile) (x : FlagName) (b : Bool) : RegisterFile :=
  match x with
  | .z => r.setFlags { r.flags with z := b }
  | .n => r.setFlags { r.flags with n := b }
  | .h => r.setFlags { r.flags with h := b }
  | .c => r.setFlags { r.flags with c := b }

/-- The register an entry of table `r` names (R162). -/
def regOf : R8 → Reg8
  | .b => .b
  | .c => .c
  | .d => .d
  | .e => .e
  | .h => .h
  | .l => .l
  | .a => .a

/-- The pair an entry of table `rp` names (R163). -/
def pairOf : Rp → Reg16
  | .bc => .bc
  | .de => .de
  | .hl => .hl
  | .sp => .sp

/-- The pair an entry of table `rp2` names (R164). -/
def pairOf2 : Rp2 → Reg16
  | .bc => .bc
  | .de => .de
  | .hl => .hl
  | .af => .af

/-- `r8[i]`. -/
def State.getR (s : State) (r : R8) : Byte := s.regs.get8 (regOf r)

/-- `r8[i] <- v`. -/
def State.setR (s : State) (r : R8) (v : Byte) : State :=
  { s with regs := s.regs.set8 (regOf r) v }

/-- Write a 16-bit register. -/
def State.set16 (s : State) (x : Reg16) (v : Word) : State := { s with regs := s.regs.set16 x v }

/-- Write all four flags. -/
def State.setFlags (s : State) (fl : Flags) : State := { s with regs := s.regs.setFlags fl }

/-- The address in HL. -/
def State.hl (s : State) : Word := s.regs.get16 .hl

/-- The carry flag. -/
def State.cf (s : State) : Bool := s.regs.flags.c

/-- Read an operand of table `r` (R162): a register, or the byte at HL. -/
def readRm (m : Rm) (s : State) : Byte × State :=
  match m with
  | .reg r => (s.getR r, s)
  | .atHL => memRead s.hl s

/-- Write an operand of table `r` (R162). -/
def writeRm (m : Rm) (v : Byte) (s : State) : State :=
  match m with
  | .reg r => s.setR r v
  | .atHL => memWrite s.hl v s

/-- The T-cycles of a form: one figure for a register, one for `(HL)` (R173, R174). -/
def formCycles (m : Rm) (reg atHL : Nat) : Nat :=
  match m with
  | .reg _ => reg
  | .atHL => atHL

end Sys2Proof.Machine
end

