-- ==== Sys2Proof/Machine/Alu16.lean ====
section
/-!
DEFINITION. The 16-bit arithmetic (42_alu16.md, R300–R305). First the shared operations, then one meaning per
instruction.
-/

namespace Sys2Proof.Machine

/-- `HL <- HL + rp[p]`, with the flags of R301. -/
def addPairToHL (p : Rp) (s : State) : Result :=
  finish 8
    ((s.set16 .hl (add16 s.hl (s.regs.get16 (pairOf p)) s.regs.flags).1).setFlags
      (add16 s.hl (s.regs.get16 (pairOf p)) s.regs.flags).2)

/-- `rp[p] <- rp[p] + 1`, no flag written (R302). -/
def incPair (p : Rp) (s : State) : Result :=
  finish 8 (s.set16 (pairOf p) (s.regs.get16 (pairOf p) + 1))

/-- `rp[p] <- rp[p] - 1`, no flag written (R303). -/
def decPair (p : Rp) (s : State) : Result :=
  finish 8 (s.set16 (pairOf p) (s.regs.get16 (pairOf p) - 1))

/-! ### The meanings -/

/-- INC BC, 0x03 (R302). -/
def execInc_BC (s : State) : Result := incPair .bc s

/-- ADD HL,BC, 0x09 (R301). -/
def execAdd_HL_BC (s : State) : Result := addPairToHL .bc s

/-- DEC BC, 0x0B (R303). -/
def execDec_BC (s : State) : Result := decPair .bc s

/-- INC DE, 0x13 (R302). -/
def execInc_DE (s : State) : Result := incPair .de s

/-- ADD HL,DE, 0x19 (R301). -/
def execAdd_HL_DE (s : State) : Result := addPairToHL .de s

/-- DEC DE, 0x1B (R303). -/
def execDec_DE (s : State) : Result := decPair .de s

/-- INC HL, 0x23 (R302). -/
def execInc_HL (s : State) : Result := incPair .hl s

/-- ADD HL,HL, 0x29 (R301). -/
def execAdd_HL_HL (s : State) : Result := addPairToHL .hl s

/-- DEC HL, 0x2B (R303). -/
def execDec_HL (s : State) : Result := decPair .hl s

/-- INC SP, 0x33 (R302). -/
def execInc_SP (s : State) : Result := incPair .sp s

/-- ADD HL,SP, 0x39 (R301). -/
def execAdd_HL_SP (s : State) : Result := addPairToHL .sp s

/-- DEC SP, 0x3B (R303). -/
def execDec_SP (s : State) : Result := decPair .sp s

/-- ADD SP,e, 0xE8 (R304). -/
def execAdd_SP_e (e : Byte) (s : State) : Result :=
  finish 16 ((s.setFlags (addSpe s.regs.sp e).2).setSp (addSpe s.regs.sp e).1)

/-- LD HL,SP+e, 0xF8 (R305). -/
def execLd_HL_SPe (e : Byte) (s : State) : Result :=
  finish 12 ((s.setFlags (addSpe s.regs.sp e).2).set16 .hl (addSpe s.regs.sp e).1)

end Sys2Proof.Machine
end

