-- ==== Sys2Proof/Machine/Alu8.lean ====
section
/-!
DEFINITION. The 8-bit arithmetic and logic (41_alu8.md, R250–R284). First the shared operations, then one
meaning per instruction.
-/

namespace Sys2Proof.Machine

/-- A and the flags after `alu` with operand `v` (R253–R276). -/
def applyAlu (op : AluOp) (v : Byte) (s : State) : State :=
  (s.setR .a (alu8 op s.regs.a v s.cf).1).setFlags (alu8 op s.regs.a v s.cf).2

/-- `alu[y]` with the operand `r[z]` or the byte at HL (R253, R254 and so on to R275). -/
def aluOperand (op : AluOp) (m : Rm) (s : State) : Result :=
  finish (formCycles m 4 8) (applyAlu op (readRm m s).1 (readRm m s).2)

/-- `alu[y]` with an immediate (R255 and so on to R276). -/
def aluImmediate (op : AluOp) (n : Byte) (s : State) : Result := finish 8 (applyAlu op n s)

/-- INC of a register or of the byte at HL (R277, R278). -/
def incOperand (m : Rm) (s : State) : Result :=
  finish (formCycles m 4 12)
    ((writeRm m (inc8 (readRm m s).1 s.regs.flags).1 (readRm m s).2).setFlags
      (inc8 (readRm m s).1 s.regs.flags).2)

/-- DEC of a register or of the byte at HL (R279, R280). -/
def decOperand (m : Rm) (s : State) : Result :=
  finish (formCycles m 4 12)
    ((writeRm m (dec8 (readRm m s).1 s.regs.flags).1 (readRm m s).2).setFlags
      (dec8 (readRm m s).1 s.regs.flags).2)

/-- DAA (R281). -/
def daaA (s : State) : Result :=
  finish 4 ((s.setR .a (daa8 s.regs.a s.regs.flags).1).setFlags (daa8 s.regs.a s.regs.flags).2)

/-- `A <- ~A; NF <- 1; HF <- 1` (R282). -/
def complementA (s : State) : Result :=
  finish 4 ((s.setR .a (~~~ s.regs.a)).setFlags { s.regs.flags with n := true, h := true })

/-- `NF <- 0; HF <- 0; CF <- 1` (R283). -/
def setCarry (s : State) : Result :=
  finish 4 (s.setFlags { s.regs.flags with n := false, h := false, c := true })

/-- `NF <- 0; HF <- 0; CF <- not CF` (R284). -/
def complementCarry (s : State) : Result :=
  finish 4 (s.setFlags { s.regs.flags with n := false, h := false, c := !s.cf })

/-! ### The meanings -/

/-- INC B, 0x04 (R277). -/
def execInc_B (s : State) : Result := incOperand (.reg .b) s

/-- DEC B, 0x05 (R279). -/
def execDec_B (s : State) : Result := decOperand (.reg .b) s

/-- INC C, 0x0C (R277). -/
def execInc_C (s : State) : Result := incOperand (.reg .c) s

/-- DEC C, 0x0D (R279). -/
def execDec_C (s : State) : Result := decOperand (.reg .c) s

/-- INC D, 0x14 (R277). -/
def execInc_D (s : State) : Result := incOperand (.reg .d) s

/-- DEC D, 0x15 (R279). -/
def execDec_D (s : State) : Result := decOperand (.reg .d) s

/-- INC E, 0x1C (R277). -/
def execInc_E (s : State) : Result := incOperand (.reg .e) s

/-- DEC E, 0x1D (R279). -/
def execDec_E (s : State) : Result := decOperand (.reg .e) s

/-- INC H, 0x24 (R277). -/
def execInc_H (s : State) : Result := incOperand (.reg .h) s

/-- DEC H, 0x25 (R279). -/
def execDec_H (s : State) : Result := decOperand (.reg .h) s

/-- DAA, 0x27 (R281). -/
def execDaa (s : State) : Result := daaA s

/-- INC L, 0x2C (R277). -/
def execInc_L (s : State) : Result := incOperand (.reg .l) s

/-- DEC L, 0x2D (R279). -/
def execDec_L (s : State) : Result := decOperand (.reg .l) s

/-- CPL, 0x2F (R282). -/
def execCpl (s : State) : Result := complementA s

/-- INC (HL), 0x34 (R278). -/
def execInc_atHL (s : State) : Result := incOperand .atHL s

/-- DEC (HL), 0x35 (R280). -/
def execDec_atHL (s : State) : Result := decOperand .atHL s

/-- SCF, 0x37 (R283). -/
def execScf (s : State) : Result := setCarry s

/-- INC A, 0x3C (R277). -/
def execInc_A (s : State) : Result := incOperand (.reg .a) s

/-- DEC A, 0x3D (R279). -/
def execDec_A (s : State) : Result := decOperand (.reg .a) s

/-- CCF, 0x3F (R284). -/
def execCcf (s : State) : Result := complementCarry s

/-- ADD A,B, 0x80 (R253). -/
def execAdd_A_B (s : State) : Result := aluOperand .add (.reg .b) s

/-- ADD A,C, 0x81 (R253). -/
def execAdd_A_C (s : State) : Result := aluOperand .add (.reg .c) s

/-- ADD A,D, 0x82 (R253). -/
def execAdd_A_D (s : State) : Result := aluOperand .add (.reg .d) s

/-- ADD A,E, 0x83 (R253). -/
def execAdd_A_E (s : State) : Result := aluOperand .add (.reg .e) s

/-- ADD A,H, 0x84 (R253). -/
def execAdd_A_H (s : State) : Result := aluOperand .add (.reg .h) s

/-- ADD A,L, 0x85 (R253). -/
def execAdd_A_L (s : State) : Result := aluOperand .add (.reg .l) s

/-- ADD A,(HL), 0x86 (R254). -/
def execAdd_A_atHL (s : State) : Result := aluOperand .add .atHL s

/-- ADD A,A, 0x87 (R253). -/
def execAdd_A_A (s : State) : Result := aluOperand .add (.reg .a) s

/-- ADC A,B, 0x88 (R256). -/
def execAdc_A_B (s : State) : Result := aluOperand .adc (.reg .b) s

/-- ADC A,C, 0x89 (R256). -/
def execAdc_A_C (s : State) : Result := aluOperand .adc (.reg .c) s

/-- ADC A,D, 0x8A (R256). -/
def execAdc_A_D (s : State) : Result := aluOperand .adc (.reg .d) s

/-- ADC A,E, 0x8B (R256). -/
def execAdc_A_E (s : State) : Result := aluOperand .adc (.reg .e) s

/-- ADC A,H, 0x8C (R256). -/
def execAdc_A_H (s : State) : Result := aluOperand .adc (.reg .h) s

/-- ADC A,L, 0x8D (R256). -/
def execAdc_A_L (s : State) : Result := aluOperand .adc (.reg .l) s

/-- ADC A,(HL), 0x8E (R257). -/
def execAdc_A_atHL (s : State) : Result := aluOperand .adc .atHL s

/-- ADC A,A, 0x8F (R256). -/
def execAdc_A_A (s : State) : Result := aluOperand .adc (.reg .a) s

/-- SUB B, 0x90 (R259). -/
def execSub_B (s : State) : Result := aluOperand .sub (.reg .b) s

/-- SUB C, 0x91 (R259). -/
def execSub_C (s : State) : Result := aluOperand .sub (.reg .c) s

/-- SUB D, 0x92 (R259). -/
def execSub_D (s : State) : Result := aluOperand .sub (.reg .d) s

/-- SUB E, 0x93 (R259). -/
def execSub_E (s : State) : Result := aluOperand .sub (.reg .e) s

/-- SUB H, 0x94 (R259). -/
def execSub_H (s : State) : Result := aluOperand .sub (.reg .h) s

/-- SUB L, 0x95 (R259). -/
def execSub_L (s : State) : Result := aluOperand .sub (.reg .l) s

/-- SUB (HL), 0x96 (R260). -/
def execSub_atHL (s : State) : Result := aluOperand .sub .atHL s

/-- SUB A, 0x97 (R259). -/
def execSub_A (s : State) : Result := aluOperand .sub (.reg .a) s

/-- SBC A,B, 0x98 (R262). -/
def execSbc_A_B (s : State) : Result := aluOperand .sbc (.reg .b) s

/-- SBC A,C, 0x99 (R262). -/
def execSbc_A_C (s : State) : Result := aluOperand .sbc (.reg .c) s

/-- SBC A,D, 0x9A (R262). -/
def execSbc_A_D (s : State) : Result := aluOperand .sbc (.reg .d) s

/-- SBC A,E, 0x9B (R262). -/
def execSbc_A_E (s : State) : Result := aluOperand .sbc (.reg .e) s

/-- SBC A,H, 0x9C (R262). -/
def execSbc_A_H (s : State) : Result := aluOperand .sbc (.reg .h) s

/-- SBC A,L, 0x9D (R262). -/
def execSbc_A_L (s : State) : Result := aluOperand .sbc (.reg .l) s

/-- SBC A,(HL), 0x9E (R263). -/
def execSbc_A_atHL (s : State) : Result := aluOperand .sbc .atHL s

/-- SBC A,A, 0x9F (R262). -/
def execSbc_A_A (s : State) : Result := aluOperand .sbc (.reg .a) s

/-- AND B, 0xA0 (R265). -/
def execAnd_B (s : State) : Result := aluOperand .and (.reg .b) s

/-- AND C, 0xA1 (R265). -/
def execAnd_C (s : State) : Result := aluOperand .and (.reg .c) s

/-- AND D, 0xA2 (R265). -/
def execAnd_D (s : State) : Result := aluOperand .and (.reg .d) s

/-- AND E, 0xA3 (R265). -/
def execAnd_E (s : State) : Result := aluOperand .and (.reg .e) s

/-- AND H, 0xA4 (R265). -/
def execAnd_H (s : State) : Result := aluOperand .and (.reg .h) s

/-- AND L, 0xA5 (R265). -/
def execAnd_L (s : State) : Result := aluOperand .and (.reg .l) s

/-- AND (HL), 0xA6 (R266). -/
def execAnd_atHL (s : State) : Result := aluOperand .and .atHL s

/-- AND A, 0xA7 (R265). -/
def execAnd_A (s : State) : Result := aluOperand .and (.reg .a) s

/-- XOR B, 0xA8 (R268). -/
def execXor_B (s : State) : Result := aluOperand .xor (.reg .b) s

/-- XOR C, 0xA9 (R268). -/
def execXor_C (s : State) : Result := aluOperand .xor (.reg .c) s

/-- XOR D, 0xAA (R268). -/
def execXor_D (s : State) : Result := aluOperand .xor (.reg .d) s

/-- XOR E, 0xAB (R268). -/
def execXor_E (s : State) : Result := aluOperand .xor (.reg .e) s

/-- XOR H, 0xAC (R268). -/
def execXor_H (s : State) : Result := aluOperand .xor (.reg .h) s

/-- XOR L, 0xAD (R268). -/
def execXor_L (s : State) : Result := aluOperand .xor (.reg .l) s

/-- XOR (HL), 0xAE (R269). -/
def execXor_atHL (s : State) : Result := aluOperand .xor .atHL s

/-- XOR A, 0xAF (R268). -/
def execXor_A (s : State) : Result := aluOperand .xor (.reg .a) s

/-- OR B, 0xB0 (R271). -/
def execOr_B (s : State) : Result := aluOperand .or (.reg .b) s

/-- OR C, 0xB1 (R271). -/
def execOr_C (s : State) : Result := aluOperand .or (.reg .c) s

/-- OR D, 0xB2 (R271). -/
def execOr_D (s : State) : Result := aluOperand .or (.reg .d) s

/-- OR E, 0xB3 (R271). -/
def execOr_E (s : State) : Result := aluOperand .or (.reg .e) s

/-- OR H, 0xB4 (R271). -/
def execOr_H (s : State) : Result := aluOperand .or (.reg .h) s

/-- OR L, 0xB5 (R271). -/
def execOr_L (s : State) : Result := aluOperand .or (.reg .l) s

/-- OR (HL), 0xB6 (R272). -/
def execOr_atHL (s : State) : Result := aluOperand .or .atHL s

/-- OR A, 0xB7 (R271). -/
def execOr_A (s : State) : Result := aluOperand .or (.reg .a) s

/-- CP B, 0xB8 (R274). -/
def execCp_B (s : State) : Result := aluOperand .cp (.reg .b) s

/-- CP C, 0xB9 (R274). -/
def execCp_C (s : State) : Result := aluOperand .cp (.reg .c) s

/-- CP D, 0xBA (R274). -/
def execCp_D (s : State) : Result := aluOperand .cp (.reg .d) s

/-- CP E, 0xBB (R274). -/
def execCp_E (s : State) : Result := aluOperand .cp (.reg .e) s

/-- CP H, 0xBC (R274). -/
def execCp_H (s : State) : Result := aluOperand .cp (.reg .h) s

/-- CP L, 0xBD (R274). -/
def execCp_L (s : State) : Result := aluOperand .cp (.reg .l) s

/-- CP (HL), 0xBE (R275). -/
def execCp_atHL (s : State) : Result := aluOperand .cp .atHL s

/-- CP A, 0xBF (R274). -/
def execCp_A (s : State) : Result := aluOperand .cp (.reg .a) s

/-- ADD A,n, 0xC6 (R255). -/
def execAdd_A_n (n : Byte) (s : State) : Result := aluImmediate .add n s

/-- ADC A,n, 0xCE (R258). -/
def execAdc_A_n (n : Byte) (s : State) : Result := aluImmediate .adc n s

/-- SUB n, 0xD6 (R261). -/
def execSub_n (n : Byte) (s : State) : Result := aluImmediate .sub n s

/-- SBC A,n, 0xDE (R264). -/
def execSbc_A_n (n : Byte) (s : State) : Result := aluImmediate .sbc n s

/-- AND n, 0xE6 (R267). -/
def execAnd_n (n : Byte) (s : State) : Result := aluImmediate .and n s

/-- XOR n, 0xEE (R270). -/
def execXor_n (n : Byte) (s : State) : Result := aluImmediate .xor n s

/-- OR n, 0xF6 (R273). -/
def execOr_n (n : Byte) (s : State) : Result := aluImmediate .or n s

/-- CP n, 0xFE (R276). -/
def execCp_n (n : Byte) (s : State) : Result := aluImmediate .cp n s

end Sys2Proof.Machine
end

