-- ==== Sys2Proof/Machine/Bits.lean ====
section
/-!
DEFINITION. Bit test, reset and set (43_rotate_shift_bit.md, R341–R346). First the shared operations, then one
meaning per instruction.
-/

namespace Sys2Proof.Machine

/-- BIT b: the flags from the tested bit, nothing written back (R341, R342). -/
def bitOperand (b : Fin 8) (m : Rm) (s : State) : Result :=
  finish (formCycles m 8 12) ((readRm m s).2.setFlags (bitFlags b (readRm m s).1 s.regs.flags))

/-- RES b, no flag written (R343, R344). -/
def resOperand (b : Fin 8) (m : Rm) (s : State) : Result :=
  finish (formCycles m 8 16) (writeRm m (resBit b (readRm m s).1) (readRm m s).2)

/-- SET b, no flag written (R345, R346). -/
def setOperand (b : Fin 8) (m : Rm) (s : State) : Result :=
  finish (formCycles m 8 16) (writeRm m (setBit b (readRm m s).1) (readRm m s).2)

/-! ### The meanings -/

/-- BIT 0,B, 0xCB 0x40 (R341). -/
def execBit_0_B (s : State) : Result := bitOperand 0 (.reg .b) s

/-- BIT 0,C, 0xCB 0x41 (R341). -/
def execBit_0_C (s : State) : Result := bitOperand 0 (.reg .c) s

/-- BIT 0,D, 0xCB 0x42 (R341). -/
def execBit_0_D (s : State) : Result := bitOperand 0 (.reg .d) s

/-- BIT 0,E, 0xCB 0x43 (R341). -/
def execBit_0_E (s : State) : Result := bitOperand 0 (.reg .e) s

/-- BIT 0,H, 0xCB 0x44 (R341). -/
def execBit_0_H (s : State) : Result := bitOperand 0 (.reg .h) s

/-- BIT 0,L, 0xCB 0x45 (R341). -/
def execBit_0_L (s : State) : Result := bitOperand 0 (.reg .l) s

/-- BIT 0,(HL), 0xCB 0x46 (R342). -/
def execBit_0_atHL (s : State) : Result := bitOperand 0 .atHL s

/-- BIT 0,A, 0xCB 0x47 (R341). -/
def execBit_0_A (s : State) : Result := bitOperand 0 (.reg .a) s

/-- BIT 1,B, 0xCB 0x48 (R341). -/
def execBit_1_B (s : State) : Result := bitOperand 1 (.reg .b) s

/-- BIT 1,C, 0xCB 0x49 (R341). -/
def execBit_1_C (s : State) : Result := bitOperand 1 (.reg .c) s

/-- BIT 1,D, 0xCB 0x4A (R341). -/
def execBit_1_D (s : State) : Result := bitOperand 1 (.reg .d) s

/-- BIT 1,E, 0xCB 0x4B (R341). -/
def execBit_1_E (s : State) : Result := bitOperand 1 (.reg .e) s

/-- BIT 1,H, 0xCB 0x4C (R341). -/
def execBit_1_H (s : State) : Result := bitOperand 1 (.reg .h) s

/-- BIT 1,L, 0xCB 0x4D (R341). -/
def execBit_1_L (s : State) : Result := bitOperand 1 (.reg .l) s

/-- BIT 1,(HL), 0xCB 0x4E (R342). -/
def execBit_1_atHL (s : State) : Result := bitOperand 1 .atHL s

/-- BIT 1,A, 0xCB 0x4F (R341). -/
def execBit_1_A (s : State) : Result := bitOperand 1 (.reg .a) s

/-- BIT 2,B, 0xCB 0x50 (R341). -/
def execBit_2_B (s : State) : Result := bitOperand 2 (.reg .b) s

/-- BIT 2,C, 0xCB 0x51 (R341). -/
def execBit_2_C (s : State) : Result := bitOperand 2 (.reg .c) s

/-- BIT 2,D, 0xCB 0x52 (R341). -/
def execBit_2_D (s : State) : Result := bitOperand 2 (.reg .d) s

/-- BIT 2,E, 0xCB 0x53 (R341). -/
def execBit_2_E (s : State) : Result := bitOperand 2 (.reg .e) s

/-- BIT 2,H, 0xCB 0x54 (R341). -/
def execBit_2_H (s : State) : Result := bitOperand 2 (.reg .h) s

/-- BIT 2,L, 0xCB 0x55 (R341). -/
def execBit_2_L (s : State) : Result := bitOperand 2 (.reg .l) s

/-- BIT 2,(HL), 0xCB 0x56 (R342). -/
def execBit_2_atHL (s : State) : Result := bitOperand 2 .atHL s

/-- BIT 2,A, 0xCB 0x57 (R341). -/
def execBit_2_A (s : State) : Result := bitOperand 2 (.reg .a) s

/-- BIT 3,B, 0xCB 0x58 (R341). -/
def execBit_3_B (s : State) : Result := bitOperand 3 (.reg .b) s

/-- BIT 3,C, 0xCB 0x59 (R341). -/
def execBit_3_C (s : State) : Result := bitOperand 3 (.reg .c) s

/-- BIT 3,D, 0xCB 0x5A (R341). -/
def execBit_3_D (s : State) : Result := bitOperand 3 (.reg .d) s

/-- BIT 3,E, 0xCB 0x5B (R341). -/
def execBit_3_E (s : State) : Result := bitOperand 3 (.reg .e) s

/-- BIT 3,H, 0xCB 0x5C (R341). -/
def execBit_3_H (s : State) : Result := bitOperand 3 (.reg .h) s

/-- BIT 3,L, 0xCB 0x5D (R341). -/
def execBit_3_L (s : State) : Result := bitOperand 3 (.reg .l) s

/-- BIT 3,(HL), 0xCB 0x5E (R342). -/
def execBit_3_atHL (s : State) : Result := bitOperand 3 .atHL s

/-- BIT 3,A, 0xCB 0x5F (R341). -/
def execBit_3_A (s : State) : Result := bitOperand 3 (.reg .a) s

/-- BIT 4,B, 0xCB 0x60 (R341). -/
def execBit_4_B (s : State) : Result := bitOperand 4 (.reg .b) s

/-- BIT 4,C, 0xCB 0x61 (R341). -/
def execBit_4_C (s : State) : Result := bitOperand 4 (.reg .c) s

/-- BIT 4,D, 0xCB 0x62 (R341). -/
def execBit_4_D (s : State) : Result := bitOperand 4 (.reg .d) s

/-- BIT 4,E, 0xCB 0x63 (R341). -/
def execBit_4_E (s : State) : Result := bitOperand 4 (.reg .e) s

/-- BIT 4,H, 0xCB 0x64 (R341). -/
def execBit_4_H (s : State) : Result := bitOperand 4 (.reg .h) s

/-- BIT 4,L, 0xCB 0x65 (R341). -/
def execBit_4_L (s : State) : Result := bitOperand 4 (.reg .l) s

/-- BIT 4,(HL), 0xCB 0x66 (R342). -/
def execBit_4_atHL (s : State) : Result := bitOperand 4 .atHL s

/-- BIT 4,A, 0xCB 0x67 (R341). -/
def execBit_4_A (s : State) : Result := bitOperand 4 (.reg .a) s

/-- BIT 5,B, 0xCB 0x68 (R341). -/
def execBit_5_B (s : State) : Result := bitOperand 5 (.reg .b) s

/-- BIT 5,C, 0xCB 0x69 (R341). -/
def execBit_5_C (s : State) : Result := bitOperand 5 (.reg .c) s

/-- BIT 5,D, 0xCB 0x6A (R341). -/
def execBit_5_D (s : State) : Result := bitOperand 5 (.reg .d) s

/-- BIT 5,E, 0xCB 0x6B (R341). -/
def execBit_5_E (s : State) : Result := bitOperand 5 (.reg .e) s

/-- BIT 5,H, 0xCB 0x6C (R341). -/
def execBit_5_H (s : State) : Result := bitOperand 5 (.reg .h) s

/-- BIT 5,L, 0xCB 0x6D (R341). -/
def execBit_5_L (s : State) : Result := bitOperand 5 (.reg .l) s

/-- BIT 5,(HL), 0xCB 0x6E (R342). -/
def execBit_5_atHL (s : State) : Result := bitOperand 5 .atHL s

/-- BIT 5,A, 0xCB 0x6F (R341). -/
def execBit_5_A (s : State) : Result := bitOperand 5 (.reg .a) s

/-- BIT 6,B, 0xCB 0x70 (R341). -/
def execBit_6_B (s : State) : Result := bitOperand 6 (.reg .b) s

/-- BIT 6,C, 0xCB 0x71 (R341). -/
def execBit_6_C (s : State) : Result := bitOperand 6 (.reg .c) s

/-- BIT 6,D, 0xCB 0x72 (R341). -/
def execBit_6_D (s : State) : Result := bitOperand 6 (.reg .d) s

/-- BIT 6,E, 0xCB 0x73 (R341). -/
def execBit_6_E (s : State) : Result := bitOperand 6 (.reg .e) s

/-- BIT 6,H, 0xCB 0x74 (R341). -/
def execBit_6_H (s : State) : Result := bitOperand 6 (.reg .h) s

/-- BIT 6,L, 0xCB 0x75 (R341). -/
def execBit_6_L (s : State) : Result := bitOperand 6 (.reg .l) s

/-- BIT 6,(HL), 0xCB 0x76 (R342). -/
def execBit_6_atHL (s : State) : Result := bitOperand 6 .atHL s

/-- BIT 6,A, 0xCB 0x77 (R341). -/
def execBit_6_A (s : State) : Result := bitOperand 6 (.reg .a) s

/-- BIT 7,B, 0xCB 0x78 (R341). -/
def execBit_7_B (s : State) : Result := bitOperand 7 (.reg .b) s

/-- BIT 7,C, 0xCB 0x79 (R341). -/
def execBit_7_C (s : State) : Result := bitOperand 7 (.reg .c) s

/-- BIT 7,D, 0xCB 0x7A (R341). -/
def execBit_7_D (s : State) : Result := bitOperand 7 (.reg .d) s

/-- BIT 7,E, 0xCB 0x7B (R341). -/
def execBit_7_E (s : State) : Result := bitOperand 7 (.reg .e) s

/-- BIT 7,H, 0xCB 0x7C (R341). -/
def execBit_7_H (s : State) : Result := bitOperand 7 (.reg .h) s

/-- BIT 7,L, 0xCB 0x7D (R341). -/
def execBit_7_L (s : State) : Result := bitOperand 7 (.reg .l) s

/-- BIT 7,(HL), 0xCB 0x7E (R342). -/
def execBit_7_atHL (s : State) : Result := bitOperand 7 .atHL s

/-- BIT 7,A, 0xCB 0x7F (R341). -/
def execBit_7_A (s : State) : Result := bitOperand 7 (.reg .a) s

/-- RES 0,B, 0xCB 0x80 (R343). -/
def execRes_0_B (s : State) : Result := resOperand 0 (.reg .b) s

/-- RES 0,C, 0xCB 0x81 (R343). -/
def execRes_0_C (s : State) : Result := resOperand 0 (.reg .c) s

/-- RES 0,D, 0xCB 0x82 (R343). -/
def execRes_0_D (s : State) : Result := resOperand 0 (.reg .d) s

/-- RES 0,E, 0xCB 0x83 (R343). -/
def execRes_0_E (s : State) : Result := resOperand 0 (.reg .e) s

/-- RES 0,H, 0xCB 0x84 (R343). -/
def execRes_0_H (s : State) : Result := resOperand 0 (.reg .h) s

/-- RES 0,L, 0xCB 0x85 (R343). -/
def execRes_0_L (s : State) : Result := resOperand 0 (.reg .l) s

/-- RES 0,(HL), 0xCB 0x86 (R344). -/
def execRes_0_atHL (s : State) : Result := resOperand 0 .atHL s

/-- RES 0,A, 0xCB 0x87 (R343). -/
def execRes_0_A (s : State) : Result := resOperand 0 (.reg .a) s

/-- RES 1,B, 0xCB 0x88 (R343). -/
def execRes_1_B (s : State) : Result := resOperand 1 (.reg .b) s

/-- RES 1,C, 0xCB 0x89 (R343). -/
def execRes_1_C (s : State) : Result := resOperand 1 (.reg .c) s

/-- RES 1,D, 0xCB 0x8A (R343). -/
def execRes_1_D (s : State) : Result := resOperand 1 (.reg .d) s

/-- RES 1,E, 0xCB 0x8B (R343). -/
def execRes_1_E (s : State) : Result := resOperand 1 (.reg .e) s

/-- RES 1,H, 0xCB 0x8C (R343). -/
def execRes_1_H (s : State) : Result := resOperand 1 (.reg .h) s

/-- RES 1,L, 0xCB 0x8D (R343). -/
def execRes_1_L (s : State) : Result := resOperand 1 (.reg .l) s

/-- RES 1,(HL), 0xCB 0x8E (R344). -/
def execRes_1_atHL (s : State) : Result := resOperand 1 .atHL s

/-- RES 1,A, 0xCB 0x8F (R343). -/
def execRes_1_A (s : State) : Result := resOperand 1 (.reg .a) s

/-- RES 2,B, 0xCB 0x90 (R343). -/
def execRes_2_B (s : State) : Result := resOperand 2 (.reg .b) s

/-- RES 2,C, 0xCB 0x91 (R343). -/
def execRes_2_C (s : State) : Result := resOperand 2 (.reg .c) s

/-- RES 2,D, 0xCB 0x92 (R343). -/
def execRes_2_D (s : State) : Result := resOperand 2 (.reg .d) s

/-- RES 2,E, 0xCB 0x93 (R343). -/
def execRes_2_E (s : State) : Result := resOperand 2 (.reg .e) s

/-- RES 2,H, 0xCB 0x94 (R343). -/
def execRes_2_H (s : State) : Result := resOperand 2 (.reg .h) s

/-- RES 2,L, 0xCB 0x95 (R343). -/
def execRes_2_L (s : State) : Result := resOperand 2 (.reg .l) s

/-- RES 2,(HL), 0xCB 0x96 (R344). -/
def execRes_2_atHL (s : State) : Result := resOperand 2 .atHL s

/-- RES 2,A, 0xCB 0x97 (R343). -/
def execRes_2_A (s : State) : Result := resOperand 2 (.reg .a) s

/-- RES 3,B, 0xCB 0x98 (R343). -/
def execRes_3_B (s : State) : Result := resOperand 3 (.reg .b) s

/-- RES 3,C, 0xCB 0x99 (R343). -/
def execRes_3_C (s : State) : Result := resOperand 3 (.reg .c) s

/-- RES 3,D, 0xCB 0x9A (R343). -/
def execRes_3_D (s : State) : Result := resOperand 3 (.reg .d) s

/-- RES 3,E, 0xCB 0x9B (R343). -/
def execRes_3_E (s : State) : Result := resOperand 3 (.reg .e) s

/-- RES 3,H, 0xCB 0x9C (R343). -/
def execRes_3_H (s : State) : Result := resOperand 3 (.reg .h) s

/-- RES 3,L, 0xCB 0x9D (R343). -/
def execRes_3_L (s : State) : Result := resOperand 3 (.reg .l) s

/-- RES 3,(HL), 0xCB 0x9E (R344). -/
def execRes_3_atHL (s : State) : Result := resOperand 3 .atHL s

/-- RES 3,A, 0xCB 0x9F (R343). -/
def execRes_3_A (s : State) : Result := resOperand 3 (.reg .a) s

/-- RES 4,B, 0xCB 0xA0 (R343). -/
def execRes_4_B (s : State) : Result := resOperand 4 (.reg .b) s

/-- RES 4,C, 0xCB 0xA1 (R343). -/
def execRes_4_C (s : State) : Result := resOperand 4 (.reg .c) s

/-- RES 4,D, 0xCB 0xA2 (R343). -/
def execRes_4_D (s : State) : Result := resOperand 4 (.reg .d) s

/-- RES 4,E, 0xCB 0xA3 (R343). -/
def execRes_4_E (s : State) : Result := resOperand 4 (.reg .e) s

/-- RES 4,H, 0xCB 0xA4 (R343). -/
def execRes_4_H (s : State) : Result := resOperand 4 (.reg .h) s

/-- RES 4,L, 0xCB 0xA5 (R343). -/
def execRes_4_L (s : State) : Result := resOperand 4 (.reg .l) s

/-- RES 4,(HL), 0xCB 0xA6 (R344). -/
def execRes_4_atHL (s : State) : Result := resOperand 4 .atHL s

/-- RES 4,A, 0xCB 0xA7 (R343). -/
def execRes_4_A (s : State) : Result := resOperand 4 (.reg .a) s

/-- RES 5,B, 0xCB 0xA8 (R343). -/
def execRes_5_B (s : State) : Result := resOperand 5 (.reg .b) s

/-- RES 5,C, 0xCB 0xA9 (R343). -/
def execRes_5_C (s : State) : Result := resOperand 5 (.reg .c) s

/-- RES 5,D, 0xCB 0xAA (R343). -/
def execRes_5_D (s : State) : Result := resOperand 5 (.reg .d) s

/-- RES 5,E, 0xCB 0xAB (R343). -/
def execRes_5_E (s : State) : Result := resOperand 5 (.reg .e) s

/-- RES 5,H, 0xCB 0xAC (R343). -/
def execRes_5_H (s : State) : Result := resOperand 5 (.reg .h) s

/-- RES 5,L, 0xCB 0xAD (R343). -/
def execRes_5_L (s : State) : Result := resOperand 5 (.reg .l) s

/-- RES 5,(HL), 0xCB 0xAE (R344). -/
def execRes_5_atHL (s : State) : Result := resOperand 5 .atHL s

/-- RES 5,A, 0xCB 0xAF (R343). -/
def execRes_5_A (s : State) : Result := resOperand 5 (.reg .a) s

/-- RES 6,B, 0xCB 0xB0 (R343). -/
def execRes_6_B (s : State) : Result := resOperand 6 (.reg .b) s

/-- RES 6,C, 0xCB 0xB1 (R343). -/
def execRes_6_C (s : State) : Result := resOperand 6 (.reg .c) s

/-- RES 6,D, 0xCB 0xB2 (R343). -/
def execRes_6_D (s : State) : Result := resOperand 6 (.reg .d) s

/-- RES 6,E, 0xCB 0xB3 (R343). -/
def execRes_6_E (s : State) : Result := resOperand 6 (.reg .e) s

/-- RES 6,H, 0xCB 0xB4 (R343). -/
def execRes_6_H (s : State) : Result := resOperand 6 (.reg .h) s

/-- RES 6,L, 0xCB 0xB5 (R343). -/
def execRes_6_L (s : State) : Result := resOperand 6 (.reg .l) s

/-- RES 6,(HL), 0xCB 0xB6 (R344). -/
def execRes_6_atHL (s : State) : Result := resOperand 6 .atHL s

/-- RES 6,A, 0xCB 0xB7 (R343). -/
def execRes_6_A (s : State) : Result := resOperand 6 (.reg .a) s

/-- RES 7,B, 0xCB 0xB8 (R343). -/
def execRes_7_B (s : State) : Result := resOperand 7 (.reg .b) s

/-- RES 7,C, 0xCB 0xB9 (R343). -/
def execRes_7_C (s : State) : Result := resOperand 7 (.reg .c) s

/-- RES 7,D, 0xCB 0xBA (R343). -/
def execRes_7_D (s : State) : Result := resOperand 7 (.reg .d) s

/-- RES 7,E, 0xCB 0xBB (R343). -/
def execRes_7_E (s : State) : Result := resOperand 7 (.reg .e) s

/-- RES 7,H, 0xCB 0xBC (R343). -/
def execRes_7_H (s : State) : Result := resOperand 7 (.reg .h) s

/-- RES 7,L, 0xCB 0xBD (R343). -/
def execRes_7_L (s : State) : Result := resOperand 7 (.reg .l) s

/-- RES 7,(HL), 0xCB 0xBE (R344). -/
def execRes_7_atHL (s : State) : Result := resOperand 7 .atHL s

/-- RES 7,A, 0xCB 0xBF (R343). -/
def execRes_7_A (s : State) : Result := resOperand 7 (.reg .a) s

/-- SET 0,B, 0xCB 0xC0 (R345). -/
def execSet_0_B (s : State) : Result := setOperand 0 (.reg .b) s

/-- SET 0,C, 0xCB 0xC1 (R345). -/
def execSet_0_C (s : State) : Result := setOperand 0 (.reg .c) s

/-- SET 0,D, 0xCB 0xC2 (R345). -/
def execSet_0_D (s : State) : Result := setOperand 0 (.reg .d) s

/-- SET 0,E, 0xCB 0xC3 (R345). -/
def execSet_0_E (s : State) : Result := setOperand 0 (.reg .e) s

/-- SET 0,H, 0xCB 0xC4 (R345). -/
def execSet_0_H (s : State) : Result := setOperand 0 (.reg .h) s

/-- SET 0,L, 0xCB 0xC5 (R345). -/
def execSet_0_L (s : State) : Result := setOperand 0 (.reg .l) s

/-- SET 0,(HL), 0xCB 0xC6 (R346). -/
def execSet_0_atHL (s : State) : Result := setOperand 0 .atHL s

/-- SET 0,A, 0xCB 0xC7 (R345). -/
def execSet_0_A (s : State) : Result := setOperand 0 (.reg .a) s

/-- SET 1,B, 0xCB 0xC8 (R345). -/
def execSet_1_B (s : State) : Result := setOperand 1 (.reg .b) s

/-- SET 1,C, 0xCB 0xC9 (R345). -/
def execSet_1_C (s : State) : Result := setOperand 1 (.reg .c) s

/-- SET 1,D, 0xCB 0xCA (R345). -/
def execSet_1_D (s : State) : Result := setOperand 1 (.reg .d) s

/-- SET 1,E, 0xCB 0xCB (R345). -/
def execSet_1_E (s : State) : Result := setOperand 1 (.reg .e) s

/-- SET 1,H, 0xCB 0xCC (R345). -/
def execSet_1_H (s : State) : Result := setOperand 1 (.reg .h) s

/-- SET 1,L, 0xCB 0xCD (R345). -/
def execSet_1_L (s : State) : Result := setOperand 1 (.reg .l) s

/-- SET 1,(HL), 0xCB 0xCE (R346). -/
def execSet_1_atHL (s : State) : Result := setOperand 1 .atHL s

/-- SET 1,A, 0xCB 0xCF (R345). -/
def execSet_1_A (s : State) : Result := setOperand 1 (.reg .a) s

/-- SET 2,B, 0xCB 0xD0 (R345). -/
def execSet_2_B (s : State) : Result := setOperand 2 (.reg .b) s

/-- SET 2,C, 0xCB 0xD1 (R345). -/
def execSet_2_C (s : State) : Result := setOperand 2 (.reg .c) s

/-- SET 2,D, 0xCB 0xD2 (R345). -/
def execSet_2_D (s : State) : Result := setOperand 2 (.reg .d) s

/-- SET 2,E, 0xCB 0xD3 (R345). -/
def execSet_2_E (s : State) : Result := setOperand 2 (.reg .e) s

/-- SET 2,H, 0xCB 0xD4 (R345). -/
def execSet_2_H (s : State) : Result := setOperand 2 (.reg .h) s

/-- SET 2,L, 0xCB 0xD5 (R345). -/
def execSet_2_L (s : State) : Result := setOperand 2 (.reg .l) s

/-- SET 2,(HL), 0xCB 0xD6 (R346). -/
def execSet_2_atHL (s : State) : Result := setOperand 2 .atHL s

/-- SET 2,A, 0xCB 0xD7 (R345). -/
def execSet_2_A (s : State) : Result := setOperand 2 (.reg .a) s

/-- SET 3,B, 0xCB 0xD8 (R345). -/
def execSet_3_B (s : State) : Result := setOperand 3 (.reg .b) s

/-- SET 3,C, 0xCB 0xD9 (R345). -/
def execSet_3_C (s : State) : Result := setOperand 3 (.reg .c) s

/-- SET 3,D, 0xCB 0xDA (R345). -/
def execSet_3_D (s : State) : Result := setOperand 3 (.reg .d) s

/-- SET 3,E, 0xCB 0xDB (R345). -/
def execSet_3_E (s : State) : Result := setOperand 3 (.reg .e) s

/-- SET 3,H, 0xCB 0xDC (R345). -/
def execSet_3_H (s : State) : Result := setOperand 3 (.reg .h) s

/-- SET 3,L, 0xCB 0xDD (R345). -/
def execSet_3_L (s : State) : Result := setOperand 3 (.reg .l) s

/-- SET 3,(HL), 0xCB 0xDE (R346). -/
def execSet_3_atHL (s : State) : Result := setOperand 3 .atHL s

/-- SET 3,A, 0xCB 0xDF (R345). -/
def execSet_3_A (s : State) : Result := setOperand 3 (.reg .a) s

/-- SET 4,B, 0xCB 0xE0 (R345). -/
def execSet_4_B (s : State) : Result := setOperand 4 (.reg .b) s

/-- SET 4,C, 0xCB 0xE1 (R345). -/
def execSet_4_C (s : State) : Result := setOperand 4 (.reg .c) s

/-- SET 4,D, 0xCB 0xE2 (R345). -/
def execSet_4_D (s : State) : Result := setOperand 4 (.reg .d) s

/-- SET 4,E, 0xCB 0xE3 (R345). -/
def execSet_4_E (s : State) : Result := setOperand 4 (.reg .e) s

/-- SET 4,H, 0xCB 0xE4 (R345). -/
def execSet_4_H (s : State) : Result := setOperand 4 (.reg .h) s

/-- SET 4,L, 0xCB 0xE5 (R345). -/
def execSet_4_L (s : State) : Result := setOperand 4 (.reg .l) s

/-- SET 4,(HL), 0xCB 0xE6 (R346). -/
def execSet_4_atHL (s : State) : Result := setOperand 4 .atHL s

/-- SET 4,A, 0xCB 0xE7 (R345). -/
def execSet_4_A (s : State) : Result := setOperand 4 (.reg .a) s

/-- SET 5,B, 0xCB 0xE8 (R345). -/
def execSet_5_B (s : State) : Result := setOperand 5 (.reg .b) s

/-- SET 5,C, 0xCB 0xE9 (R345). -/
def execSet_5_C (s : State) : Result := setOperand 5 (.reg .c) s

/-- SET 5,D, 0xCB 0xEA (R345). -/
def execSet_5_D (s : State) : Result := setOperand 5 (.reg .d) s

/-- SET 5,E, 0xCB 0xEB (R345). -/
def execSet_5_E (s : State) : Result := setOperand 5 (.reg .e) s

/-- SET 5,H, 0xCB 0xEC (R345). -/
def execSet_5_H (s : State) : Result := setOperand 5 (.reg .h) s

/-- SET 5,L, 0xCB 0xED (R345). -/
def execSet_5_L (s : State) : Result := setOperand 5 (.reg .l) s

/-- SET 5,(HL), 0xCB 0xEE (R346). -/
def execSet_5_atHL (s : State) : Result := setOperand 5 .atHL s

/-- SET 5,A, 0xCB 0xEF (R345). -/
def execSet_5_A (s : State) : Result := setOperand 5 (.reg .a) s

/-- SET 6,B, 0xCB 0xF0 (R345). -/
def execSet_6_B (s : State) : Result := setOperand 6 (.reg .b) s

/-- SET 6,C, 0xCB 0xF1 (R345). -/
def execSet_6_C (s : State) : Result := setOperand 6 (.reg .c) s

/-- SET 6,D, 0xCB 0xF2 (R345). -/
def execSet_6_D (s : State) : Result := setOperand 6 (.reg .d) s

/-- SET 6,E, 0xCB 0xF3 (R345). -/
def execSet_6_E (s : State) : Result := setOperand 6 (.reg .e) s

/-- SET 6,H, 0xCB 0xF4 (R345). -/
def execSet_6_H (s : State) : Result := setOperand 6 (.reg .h) s

/-- SET 6,L, 0xCB 0xF5 (R345). -/
def execSet_6_L (s : State) : Result := setOperand 6 (.reg .l) s

/-- SET 6,(HL), 0xCB 0xF6 (R346). -/
def execSet_6_atHL (s : State) : Result := setOperand 6 .atHL s

/-- SET 6,A, 0xCB 0xF7 (R345). -/
def execSet_6_A (s : State) : Result := setOperand 6 (.reg .a) s

/-- SET 7,B, 0xCB 0xF8 (R345). -/
def execSet_7_B (s : State) : Result := setOperand 7 (.reg .b) s

/-- SET 7,C, 0xCB 0xF9 (R345). -/
def execSet_7_C (s : State) : Result := setOperand 7 (.reg .c) s

/-- SET 7,D, 0xCB 0xFA (R345). -/
def execSet_7_D (s : State) : Result := setOperand 7 (.reg .d) s

/-- SET 7,E, 0xCB 0xFB (R345). -/
def execSet_7_E (s : State) : Result := setOperand 7 (.reg .e) s

/-- SET 7,H, 0xCB 0xFC (R345). -/
def execSet_7_H (s : State) : Result := setOperand 7 (.reg .h) s

/-- SET 7,L, 0xCB 0xFD (R345). -/
def execSet_7_L (s : State) : Result := setOperand 7 (.reg .l) s

/-- SET 7,(HL), 0xCB 0xFE (R346). -/
def execSet_7_atHL (s : State) : Result := setOperand 7 .atHL s

/-- SET 7,A, 0xCB 0xFF (R345). -/
def execSet_7_A (s : State) : Result := setOperand 7 (.reg .a) s

end Sys2Proof.Machine
end

