-- ==== Sys2Proof/Machine/Control.lean ====
section
/-!
DEFINITION. Control transfer (44_control.md, R360–R371). PC is the address of the next instruction when a
meaning starts (R27). No instruction here writes a flag. First the shared operations, then one meaning
per instruction.
-/

namespace Sys2Proof.Machine

/-- `PC <- PC + sext_16(e)` (R364). -/
def jumpRelative (e : Byte) (s : State) : State := s.setPc (s.regs.pc + sext16 e)

/-- `Push16(PC); PC <- nn` (R366). -/
def callTo (nn : Word) (s : State) : State := (push16 s.regs.pc s).setPc nn

/-- `PC <- Pop16()` (R368). -/
def returnTo (s : State) : State := (pop16 s).2.setPc (pop16 s).1

/-- JP cc,nn (R362). -/
def jumpIf (k : Cond) (nn : Word) (s : State) : Result :=
  if condHolds k s.regs.flags then finish 16 (s.setPc nn) else finish 12 s

/-- JR cc,e (R365). -/
def jumpRelativeIf (k : Cond) (e : Byte) (s : State) : Result :=
  if condHolds k s.regs.flags then finish 12 (jumpRelative e s) else finish 8 s

/-- CALL cc,nn; not taken, no stack access (R367). -/
def callIf (k : Cond) (nn : Word) (s : State) : Result :=
  if condHolds k s.regs.flags then finish 24 (callTo nn s) else finish 12 s

/-- RET cc; not taken, no stack access (R369). -/
def returnIf (k : Cond) (s : State) : Result :=
  if condHolds k s.regs.flags then finish 20 (returnTo s) else finish 8 s

/-- RST: a call of `8 * y` (R371). -/
def restart (y : Fin 8) (s : State) : Result := finish 16 (callTo (8 * BitVec.ofNat 16 y.val) s)

/-! ### The meanings -/

/-- JR e, 0x18 (R364). -/
def execJr_e (e : Byte) (s : State) : Result := finish 12 (jumpRelative e s)

/-- JR NZ,e, 0x20 (R365). -/
def execJr_NZ_e (e : Byte) (s : State) : Result := jumpRelativeIf .nz e s

/-- JR Z,e, 0x28 (R365). -/
def execJr_Z_e (e : Byte) (s : State) : Result := jumpRelativeIf .z e s

/-- JR NC,e, 0x30 (R365). -/
def execJr_NC_e (e : Byte) (s : State) : Result := jumpRelativeIf .nc e s

/-- JR C,e, 0x38 (R365). -/
def execJr_C_e (e : Byte) (s : State) : Result := jumpRelativeIf .c e s

/-- RET NZ, 0xC0 (R369). -/
def execRet_NZ (s : State) : Result := returnIf .nz s

/-- JP NZ,nn, 0xC2 (R362). -/
def execJp_NZ_nn (nn : Word) (s : State) : Result := jumpIf .nz nn s

/-- JP nn, 0xC3 (R361). -/
def execJp_nn (nn : Word) (s : State) : Result := finish 16 (s.setPc nn)

/-- CALL NZ,nn, 0xC4 (R367). -/
def execCall_NZ_nn (nn : Word) (s : State) : Result := callIf .nz nn s

/-- RST 00H, 0xC7 (R371). -/
def execRst_00 (s : State) : Result := restart 0 s

/-- RET Z, 0xC8 (R369). -/
def execRet_Z (s : State) : Result := returnIf .z s

/-- RET, 0xC9 (R368). -/
def execRet (s : State) : Result := finish 16 (returnTo s)

/-- JP Z,nn, 0xCA (R362). -/
def execJp_Z_nn (nn : Word) (s : State) : Result := jumpIf .z nn s

/-- CALL Z,nn, 0xCC (R367). -/
def execCall_Z_nn (nn : Word) (s : State) : Result := callIf .z nn s

/-- CALL nn, 0xCD (R366). -/
def execCall_nn (nn : Word) (s : State) : Result := finish 24 (callTo nn s)

/-- RST 08H, 0xCF (R371). -/
def execRst_08 (s : State) : Result := restart 1 s

/-- RET NC, 0xD0 (R369). -/
def execRet_NC (s : State) : Result := returnIf .nc s

/-- JP NC,nn, 0xD2 (R362). -/
def execJp_NC_nn (nn : Word) (s : State) : Result := jumpIf .nc nn s

/-- CALL NC,nn, 0xD4 (R367). -/
def execCall_NC_nn (nn : Word) (s : State) : Result := callIf .nc nn s

/-- RST 10H, 0xD7 (R371). -/
def execRst_10 (s : State) : Result := restart 2 s

/-- RET C, 0xD8 (R369). -/
def execRet_C (s : State) : Result := returnIf .c s

/-- RETI, 0xD9 (R370). -/
def execReti (s : State) : Result := finish 16 (returnFromInterrupt s)

/-- JP C,nn, 0xDA (R362). -/
def execJp_C_nn (nn : Word) (s : State) : Result := jumpIf .c nn s

/-- CALL C,nn, 0xDC (R367). -/
def execCall_C_nn (nn : Word) (s : State) : Result := callIf .c nn s

/-- RST 18H, 0xDF (R371). -/
def execRst_18 (s : State) : Result := restart 3 s

/-- RST 20H, 0xE7 (R371). -/
def execRst_20 (s : State) : Result := restart 4 s

/-- JP HL, 0xE9 (R363). -/
def execJp_HL (s : State) : Result := finish 4 (s.setPc s.hl)

/-- RST 28H, 0xEF (R371). -/
def execRst_28 (s : State) : Result := restart 5 s

/-- RST 30H, 0xF7 (R371). -/
def execRst_30 (s : State) : Result := restart 6 s

/-- RST 38H, 0xFF (R371). -/
def execRst_38 (s : State) : Result := restart 7 s

end Sys2Proof.Machine
end

