-- ==== Sys2Proof/Machine/Rotate.lean ====
section
/-!
DEFINITION. Rotates and shifts (43_rotate_shift_bit.md, R320–R340). First the shared operations, then one
meaning per instruction.
-/

namespace Sys2Proof.Machine

/-- A rotate of the accumulator (R320–R323). -/
def rotA (k : RotOp) (s : State) : Result :=
  finish 4 ((s.setR .a (rotA8 k s.regs.a s.cf).1).setFlags (rotA8 k s.regs.a s.cf).2)

/-- A CB shift or rotate of a register or of the byte at HL (R324–R340). -/
def rotOperand (k : RotOp) (m : Rm) (s : State) : Result :=
  finish (formCycles m 8 16)
    ((writeRm m (rot8 k (readRm m s).1 s.cf).1 (readRm m s).2).setFlags
      (rot8 k (readRm m s).1 s.cf).2)

/-! ### The meanings -/

/-- RLCA, 0x07 (R320). -/
def execRlca (s : State) : Result := rotA .rlc s

/-- RRCA, 0x0F (R321). -/
def execRrca (s : State) : Result := rotA .rrc s

/-- RLA, 0x17 (R322). -/
def execRla (s : State) : Result := rotA .rl s

/-- RRA, 0x1F (R323). -/
def execRra (s : State) : Result := rotA .rr s

/-- RLC B, 0xCB 0x00 (R325). -/
def execRlc_B (s : State) : Result := rotOperand .rlc (.reg .b) s

/-- RLC C, 0xCB 0x01 (R325). -/
def execRlc_C (s : State) : Result := rotOperand .rlc (.reg .c) s

/-- RLC D, 0xCB 0x02 (R325). -/
def execRlc_D (s : State) : Result := rotOperand .rlc (.reg .d) s

/-- RLC E, 0xCB 0x03 (R325). -/
def execRlc_E (s : State) : Result := rotOperand .rlc (.reg .e) s

/-- RLC H, 0xCB 0x04 (R325). -/
def execRlc_H (s : State) : Result := rotOperand .rlc (.reg .h) s

/-- RLC L, 0xCB 0x05 (R325). -/
def execRlc_L (s : State) : Result := rotOperand .rlc (.reg .l) s

/-- RLC (HL), 0xCB 0x06 (R326). -/
def execRlc_atHL (s : State) : Result := rotOperand .rlc .atHL s

/-- RLC A, 0xCB 0x07 (R325). -/
def execRlc_A (s : State) : Result := rotOperand .rlc (.reg .a) s

/-- RRC B, 0xCB 0x08 (R327). -/
def execRrc_B (s : State) : Result := rotOperand .rrc (.reg .b) s

/-- RRC C, 0xCB 0x09 (R327). -/
def execRrc_C (s : State) : Result := rotOperand .rrc (.reg .c) s

/-- RRC D, 0xCB 0x0A (R327). -/
def execRrc_D (s : State) : Result := rotOperand .rrc (.reg .d) s

/-- RRC E, 0xCB 0x0B (R327). -/
def execRrc_E (s : State) : Result := rotOperand .rrc (.reg .e) s

/-- RRC H, 0xCB 0x0C (R327). -/
def execRrc_H (s : State) : Result := rotOperand .rrc (.reg .h) s

/-- RRC L, 0xCB 0x0D (R327). -/
def execRrc_L (s : State) : Result := rotOperand .rrc (.reg .l) s

/-- RRC (HL), 0xCB 0x0E (R328). -/
def execRrc_atHL (s : State) : Result := rotOperand .rrc .atHL s

/-- RRC A, 0xCB 0x0F (R327). -/
def execRrc_A (s : State) : Result := rotOperand .rrc (.reg .a) s

/-- RL B, 0xCB 0x10 (R329). -/
def execRl_B (s : State) : Result := rotOperand .rl (.reg .b) s

/-- RL C, 0xCB 0x11 (R329). -/
def execRl_C (s : State) : Result := rotOperand .rl (.reg .c) s

/-- RL D, 0xCB 0x12 (R329). -/
def execRl_D (s : State) : Result := rotOperand .rl (.reg .d) s

/-- RL E, 0xCB 0x13 (R329). -/
def execRl_E (s : State) : Result := rotOperand .rl (.reg .e) s

/-- RL H, 0xCB 0x14 (R329). -/
def execRl_H (s : State) : Result := rotOperand .rl (.reg .h) s

/-- RL L, 0xCB 0x15 (R329). -/
def execRl_L (s : State) : Result := rotOperand .rl (.reg .l) s

/-- RL (HL), 0xCB 0x16 (R330). -/
def execRl_atHL (s : State) : Result := rotOperand .rl .atHL s

/-- RL A, 0xCB 0x17 (R329). -/
def execRl_A (s : State) : Result := rotOperand .rl (.reg .a) s

/-- RR B, 0xCB 0x18 (R331). -/
def execRr_B (s : State) : Result := rotOperand .rr (.reg .b) s

/-- RR C, 0xCB 0x19 (R331). -/
def execRr_C (s : State) : Result := rotOperand .rr (.reg .c) s

/-- RR D, 0xCB 0x1A (R331). -/
def execRr_D (s : State) : Result := rotOperand .rr (.reg .d) s

/-- RR E, 0xCB 0x1B (R331). -/
def execRr_E (s : State) : Result := rotOperand .rr (.reg .e) s

/-- RR H, 0xCB 0x1C (R331). -/
def execRr_H (s : State) : Result := rotOperand .rr (.reg .h) s

/-- RR L, 0xCB 0x1D (R331). -/
def execRr_L (s : State) : Result := rotOperand .rr (.reg .l) s

/-- RR (HL), 0xCB 0x1E (R332). -/
def execRr_atHL (s : State) : Result := rotOperand .rr .atHL s

/-- RR A, 0xCB 0x1F (R331). -/
def execRr_A (s : State) : Result := rotOperand .rr (.reg .a) s

/-- SLA B, 0xCB 0x20 (R333). -/
def execSla_B (s : State) : Result := rotOperand .sla (.reg .b) s

/-- SLA C, 0xCB 0x21 (R333). -/
def execSla_C (s : State) : Result := rotOperand .sla (.reg .c) s

/-- SLA D, 0xCB 0x22 (R333). -/
def execSla_D (s : State) : Result := rotOperand .sla (.reg .d) s

/-- SLA E, 0xCB 0x23 (R333). -/
def execSla_E (s : State) : Result := rotOperand .sla (.reg .e) s

/-- SLA H, 0xCB 0x24 (R333). -/
def execSla_H (s : State) : Result := rotOperand .sla (.reg .h) s

/-- SLA L, 0xCB 0x25 (R333). -/
def execSla_L (s : State) : Result := rotOperand .sla (.reg .l) s

/-- SLA (HL), 0xCB 0x26 (R334). -/
def execSla_atHL (s : State) : Result := rotOperand .sla .atHL s

/-- SLA A, 0xCB 0x27 (R333). -/
def execSla_A (s : State) : Result := rotOperand .sla (.reg .a) s

/-- SRA B, 0xCB 0x28 (R335). -/
def execSra_B (s : State) : Result := rotOperand .sra (.reg .b) s

/-- SRA C, 0xCB 0x29 (R335). -/
def execSra_C (s : State) : Result := rotOperand .sra (.reg .c) s

/-- SRA D, 0xCB 0x2A (R335). -/
def execSra_D (s : State) : Result := rotOperand .sra (.reg .d) s

/-- SRA E, 0xCB 0x2B (R335). -/
def execSra_E (s : State) : Result := rotOperand .sra (.reg .e) s

/-- SRA H, 0xCB 0x2C (R335). -/
def execSra_H (s : State) : Result := rotOperand .sra (.reg .h) s

/-- SRA L, 0xCB 0x2D (R335). -/
def execSra_L (s : State) : Result := rotOperand .sra (.reg .l) s

/-- SRA (HL), 0xCB 0x2E (R336). -/
def execSra_atHL (s : State) : Result := rotOperand .sra .atHL s

/-- SRA A, 0xCB 0x2F (R335). -/
def execSra_A (s : State) : Result := rotOperand .sra (.reg .a) s

/-- SWAP B, 0xCB 0x30 (R337). -/
def execSwap_B (s : State) : Result := rotOperand .swap (.reg .b) s

/-- SWAP C, 0xCB 0x31 (R337). -/
def execSwap_C (s : State) : Result := rotOperand .swap (.reg .c) s

/-- SWAP D, 0xCB 0x32 (R337). -/
def execSwap_D (s : State) : Result := rotOperand .swap (.reg .d) s

/-- SWAP E, 0xCB 0x33 (R337). -/
def execSwap_E (s : State) : Result := rotOperand .swap (.reg .e) s

/-- SWAP H, 0xCB 0x34 (R337). -/
def execSwap_H (s : State) : Result := rotOperand .swap (.reg .h) s

/-- SWAP L, 0xCB 0x35 (R337). -/
def execSwap_L (s : State) : Result := rotOperand .swap (.reg .l) s

/-- SWAP (HL), 0xCB 0x36 (R338). -/
def execSwap_atHL (s : State) : Result := rotOperand .swap .atHL s

/-- SWAP A, 0xCB 0x37 (R337). -/
def execSwap_A (s : State) : Result := rotOperand .swap (.reg .a) s

/-- SRL B, 0xCB 0x38 (R339). -/
def execSrl_B (s : State) : Result := rotOperand .srl (.reg .b) s

/-- SRL C, 0xCB 0x39 (R339). -/
def execSrl_C (s : State) : Result := rotOperand .srl (.reg .c) s

/-- SRL D, 0xCB 0x3A (R339). -/
def execSrl_D (s : State) : Result := rotOperand .srl (.reg .d) s

/-- SRL E, 0xCB 0x3B (R339). -/
def execSrl_E (s : State) : Result := rotOperand .srl (.reg .e) s

/-- SRL H, 0xCB 0x3C (R339). -/
def execSrl_H (s : State) : Result := rotOperand .srl (.reg .h) s

/-- SRL L, 0xCB 0x3D (R339). -/
def execSrl_L (s : State) : Result := rotOperand .srl (.reg .l) s

/-- SRL (HL), 0xCB 0x3E (R340). -/
def execSrl_atHL (s : State) : Result := rotOperand .srl .atHL s

/-- SRL A, 0xCB 0x3F (R339). -/
def execSrl_A (s : State) : Result := rotOperand .srl (.reg .a) s

end Sys2Proof.Machine
end

