-- ==== Sys2Proof/Machine/CpuControl.lean ====
section
/-!
DEFINITION. The CPU-control instructions (45_cpu_control.md, R393–R399): NOP, HALT, STOP, DI, EI, the CB escape and
the eleven INVALID slots.
-/

namespace Sys2Proof.Machine

/-- STOP: the operand byte has been fetched and is ignored, whatever it is; then the CPU halts (R395). -/
def stopWith (_ : Byte) (s : State) : Result := finish 4 { s with halted := true }

/-- The bound operation of the CB entry for a second byte, from its fields (R174, R398). -/
def execCbEntry (op2 : Byte) (s : State) : Result :=
  match (fieldX op2).toNat with
  | 0 => rotOperand (tableRot (fieldY op2)) (tableR (fieldZ op2)) s
  | 1 => bitOperand (fieldY op2).toFin (tableR (fieldZ op2)) s
  | 2 => resOperand (fieldY op2).toFin (tableR (fieldZ op2)) s
  | _ => setOperand (fieldY op2).toFin (tableR (fieldZ op2)) s

/-! ### The meanings -/

/-- NOP, 0x00 (R393). -/
def execNop (s : State) : Result := finish 4 s

/-- STOP, 0x10 (R395). -/
def execStop (x : Byte) (s : State) : Result := stopWith x s

/-- HALT, 0x76 (R394). -/
def execHalt (s : State) : Result := finish 4 { s with halted := true }

/-- PREFIX CB, 0xCB: `op2 <- Fetch8()`, then the entry `CB[op2]` (R398). -/
def execPrefixCb (s : State) : Result := execCbEntry (fetch8 s).1 (fetch8 s).2

/-- INVALID, 0xD3 (R399). -/
def execInvalid_D3 (s : State) : Result := raiseInvalidOpcode (.plain 0xD3) (s.regs.pc - 1) s

/-- INVALID, 0xDB (R399). -/
def execInvalid_DB (s : State) : Result := raiseInvalidOpcode (.plain 0xDB) (s.regs.pc - 1) s

/-- INVALID, 0xDD (R399). -/
def execInvalid_DD (s : State) : Result := raiseInvalidOpcode (.plain 0xDD) (s.regs.pc - 1) s

/-- INVALID, 0xE3 (R399). -/
def execInvalid_E3 (s : State) : Result := raiseInvalidOpcode (.plain 0xE3) (s.regs.pc - 1) s

/-- INVALID, 0xE4 (R399). -/
def execInvalid_E4 (s : State) : Result := raiseInvalidOpcode (.plain 0xE4) (s.regs.pc - 1) s

/-- INVALID, 0xEB (R399). -/
def execInvalid_EB (s : State) : Result := raiseInvalidOpcode (.plain 0xEB) (s.regs.pc - 1) s

/-- INVALID, 0xEC (R399). -/
def execInvalid_EC (s : State) : Result := raiseInvalidOpcode (.plain 0xEC) (s.regs.pc - 1) s

/-- INVALID, 0xED (R399). -/
def execInvalid_ED (s : State) : Result := raiseInvalidOpcode (.plain 0xED) (s.regs.pc - 1) s

/-- DI, 0xF3 (R396). -/
def execDi (s : State) : Result := finish 4 { s with ime := false, imeSched := false }

/-- INVALID, 0xF4 (R399). -/
def execInvalid_F4 (s : State) : Result := raiseInvalidOpcode (.plain 0xF4) (s.regs.pc - 1) s

/-- EI, 0xFB (R397). -/
def execEi (s : State) : Result := finish 4 { s with imeSched := true }

/-- INVALID, 0xFC (R399). -/
def execInvalid_FC (s : State) : Result := raiseInvalidOpcode (.plain 0xFC) (s.regs.pc - 1) s

/-- INVALID, 0xFD (R399). -/
def execInvalid_FD (s : State) : Result := raiseInvalidOpcode (.plain 0xFD) (s.regs.pc - 1) s

end Sys2Proof.Machine
end

