-- ==== Sys2Proof/Machine/Loads.lean ====
section
/-!
DEFINITION. Loads, stores and the stack (40_loads.md, R200–R223). No instruction here writes a flag, except
POP AF. First the shared operations, one for each operand form, then one meaning per instruction.
-/

namespace Sys2Proof.Machine

/-- `r8[y] <- r8[z]` (R200). -/
def loadReg (dst src : R8) (s : State) : Result := finish 4 (s.setR dst (s.getR src))

/-- `r8[y] <- n` (R201). -/
def loadRegImm (dst : R8) (n : Byte) (s : State) : Result := finish 8 (s.setR dst n)

/-- `r8[y] <- MemRead(HL, 1)` (R202). -/
def loadRegAtHL (dst : R8) (s : State) : Result :=
  finish 8 ((memRead s.hl s).2.setR dst (memRead s.hl s).1)

/-- `MemWrite(HL, 1, r8[z])` (R203). -/
def storeRegAtHL (src : R8) (s : State) : Result := finish 8 (memWrite s.hl (s.getR src) s)

/-- `MemWrite(HL, 1, n)` (R204). -/
def storeImmAtHL (n : Byte) (s : State) : Result := finish 12 (memWrite s.hl n s)

/-- `A <- MemRead(a, 1)` (R205, R206, R209, R211, R213). -/
def loadA (cycles : Nat) (a : Word) (s : State) : Result :=
  finish cycles ((memRead a s).2.setR .a (memRead a s).1)

/-- `MemWrite(a, 1, A)` (R207, R208, R210, R212, R214). -/
def storeA (cycles : Nat) (a : Word) (s : State) : Result := finish cycles (memWrite a s.regs.a s)

/-- `A <- MemRead(HL, 1); HL <- HL + step` (R215, R217). -/
def loadAStepHL (step : Word) (s : State) : Result :=
  finish 8 (((memRead s.hl s).2.setR .a (memRead s.hl s).1).set16 .hl (s.hl + step))

/-- `MemWrite(HL, 1, A); HL <- HL + step` (R216, R218). -/
def storeAStepHL (step : Word) (s : State) : Result :=
  finish 8 ((memWrite s.hl s.regs.a s).set16 .hl (s.hl + step))

/-- `rp[p] <- nn` (R219). -/
def loadPairImm (p : Rp) (nn : Word) (s : State) : Result := finish 12 (s.set16 (pairOf p) nn)

/-- `Push16(rp2[p])` (R222). -/
def pushPair (p : Rp2) (s : State) : Result := finish 16 (push16 (s.regs.get16 (pairOf2 p)) s)

/-- `v <- Pop16(); rp2[p] <- v` (R223). -/
def popPair (p : Rp2) (s : State) : Result :=
  finish 12 ((pop16 s).2.set16 (pairOf2 p) (pop16 s).1)

/-! ### The meanings -/

/-- LD BC,nn, 0x01 (R219). -/
def execLd_BC_nn (nn : Word) (s : State) : Result := loadPairImm .bc nn s

/-- LD (BC),A, 0x02 (R207). -/
def execLd_atBC_A (s : State) : Result := storeA 8 (s.regs.get16 .bc) s

/-- LD B,n, 0x06 (R201). -/
def execLd_B_n (n : Byte) (s : State) : Result := loadRegImm .b n s

/-- LD (nn),SP, 0x08 (R220). -/
def execLd_atNn_SP (nn : Word) (s : State) : Result := finish 20 (memWrite16 nn s.regs.sp s)

/-- LD A,(BC), 0x0A (R205). -/
def execLd_A_atBC (s : State) : Result := loadA 8 (s.regs.get16 .bc) s

/-- LD C,n, 0x0E (R201). -/
def execLd_C_n (n : Byte) (s : State) : Result := loadRegImm .c n s

/-- LD DE,nn, 0x11 (R219). -/
def execLd_DE_nn (nn : Word) (s : State) : Result := loadPairImm .de nn s

/-- LD (DE),A, 0x12 (R208). -/
def execLd_atDE_A (s : State) : Result := storeA 8 (s.regs.get16 .de) s

/-- LD D,n, 0x16 (R201). -/
def execLd_D_n (n : Byte) (s : State) : Result := loadRegImm .d n s

/-- LD A,(DE), 0x1A (R206). -/
def execLd_A_atDE (s : State) : Result := loadA 8 (s.regs.get16 .de) s

/-- LD E,n, 0x1E (R201). -/
def execLd_E_n (n : Byte) (s : State) : Result := loadRegImm .e n s

/-- LD HL,nn, 0x21 (R219). -/
def execLd_HL_nn (nn : Word) (s : State) : Result := loadPairImm .hl nn s

/-- LD (HL+),A, 0x22 (R218). -/
def execLd_atHLi_A (s : State) : Result := storeAStepHL 1 s

/-- LD H,n, 0x26 (R201). -/
def execLd_H_n (n : Byte) (s : State) : Result := loadRegImm .h n s

/-- LD A,(HL+), 0x2A (R217). -/
def execLd_A_atHLi (s : State) : Result := loadAStepHL 1 s

/-- LD L,n, 0x2E (R201). -/
def execLd_L_n (n : Byte) (s : State) : Result := loadRegImm .l n s

/-- LD SP,nn, 0x31 (R219). -/
def execLd_SP_nn (nn : Word) (s : State) : Result := loadPairImm .sp nn s

/-- LD (HL-),A, 0x32 (R216). -/
def execLd_atHLd_A (s : State) : Result := storeAStepHL (-1) s

/-- LD (HL),n, 0x36 (R204). -/
def execLd_atHL_n (n : Byte) (s : State) : Result := storeImmAtHL n s

/-- LD A,(HL-), 0x3A (R215). -/
def execLd_A_atHLd (s : State) : Result := loadAStepHL (-1) s

/-- LD A,n, 0x3E (R201). -/
def execLd_A_n (n : Byte) (s : State) : Result := loadRegImm .a n s

/-- LD B,B, 0x40 (R200). -/
def execLd_B_B (s : State) : Result := loadReg .b .b s

/-- LD B,C, 0x41 (R200). -/
def execLd_B_C (s : State) : Result := loadReg .b .c s

/-- LD B,D, 0x42 (R200). -/
def execLd_B_D (s : State) : Result := loadReg .b .d s

/-- LD B,E, 0x43 (R200). -/
def execLd_B_E (s : State) : Result := loadReg .b .e s

/-- LD B,H, 0x44 (R200). -/
def execLd_B_H (s : State) : Result := loadReg .b .h s

/-- LD B,L, 0x45 (R200). -/
def execLd_B_L (s : State) : Result := loadReg .b .l s

/-- LD B,(HL), 0x46 (R202). -/
def execLd_B_atHL (s : State) : Result := loadRegAtHL .b s

/-- LD B,A, 0x47 (R200). -/
def execLd_B_A (s : State) : Result := loadReg .b .a s

/-- LD C,B, 0x48 (R200). -/
def execLd_C_B (s : State) : Result := loadReg .c .b s

/-- LD C,C, 0x49 (R200). -/
def execLd_C_C (s : State) : Result := loadReg .c .c s

/-- LD C,D, 0x4A (R200). -/
def execLd_C_D (s : State) : Result := loadReg .c .d s

/-- LD C,E, 0x4B (R200). -/
def execLd_C_E (s : State) : Result := loadReg .c .e s

/-- LD C,H, 0x4C (R200). -/
def execLd_C_H (s : State) : Result := loadReg .c .h s

/-- LD C,L, 0x4D (R200). -/
def execLd_C_L (s : State) : Result := loadReg .c .l s

/-- LD C,(HL), 0x4E (R202). -/
def execLd_C_atHL (s : State) : Result := loadRegAtHL .c s

/-- LD C,A, 0x4F (R200). -/
def execLd_C_A (s : State) : Result := loadReg .c .a s

/-- LD D,B, 0x50 (R200). -/
def execLd_D_B (s : State) : Result := loadReg .d .b s

/-- LD D,C, 0x51 (R200). -/
def execLd_D_C (s : State) : Result := loadReg .d .c s

/-- LD D,D, 0x52 (R200). -/
def execLd_D_D (s : State) : Result := loadReg .d .d s

/-- LD D,E, 0x53 (R200). -/
def execLd_D_E (s : State) : Result := loadReg .d .e s

/-- LD D,H, 0x54 (R200). -/
def execLd_D_H (s : State) : Result := loadReg .d .h s

/-- LD D,L, 0x55 (R200). -/
def execLd_D_L (s : State) : Result := loadReg .d .l s

/-- LD D,(HL), 0x56 (R202). -/
def execLd_D_atHL (s : State) : Result := loadRegAtHL .d s

/-- LD D,A, 0x57 (R200). -/
def execLd_D_A (s : State) : Result := loadReg .d .a s

/-- LD E,B, 0x58 (R200). -/
def execLd_E_B (s : State) : Result := loadReg .e .b s

/-- LD E,C, 0x59 (R200). -/
def execLd_E_C (s : State) : Result := loadReg .e .c s

/-- LD E,D, 0x5A (R200). -/
def execLd_E_D (s : State) : Result := loadReg .e .d s

/-- LD E,E, 0x5B (R200). -/
def execLd_E_E (s : State) : Result := loadReg .e .e s

/-- LD E,H, 0x5C (R200). -/
def execLd_E_H (s : State) : Result := loadReg .e .h s

/-- LD E,L, 0x5D (R200). -/
def execLd_E_L (s : State) : Result := loadReg .e .l s

/-- LD E,(HL), 0x5E (R202). -/
def execLd_E_atHL (s : State) : Result := loadRegAtHL .e s

/-- LD E,A, 0x5F (R200). -/
def execLd_E_A (s : State) : Result := loadReg .e .a s

/-- LD H,B, 0x60 (R200). -/
def execLd_H_B (s : State) : Result := loadReg .h .b s

/-- LD H,C, 0x61 (R200). -/
def execLd_H_C (s : State) : Result := loadReg .h .c s

/-- LD H,D, 0x62 (R200). -/
def execLd_H_D (s : State) : Result := loadReg .h .d s

/-- LD H,E, 0x63 (R200). -/
def execLd_H_E (s : State) : Result := loadReg .h .e s

/-- LD H,H, 0x64 (R200). -/
def execLd_H_H (s : State) : Result := loadReg .h .h s

/-- LD H,L, 0x65 (R200). -/
def execLd_H_L (s : State) : Result := loadReg .h .l s

/-- LD H,(HL), 0x66 (R202). -/
def execLd_H_atHL (s : State) : Result := loadRegAtHL .h s

/-- LD H,A, 0x67 (R200). -/
def execLd_H_A (s : State) : Result := loadReg .h .a s

/-- LD L,B, 0x68 (R200). -/
def execLd_L_B (s : State) : Result := loadReg .l .b s

/-- LD L,C, 0x69 (R200). -/
def execLd_L_C (s : State) : Result := loadReg .l .c s

/-- LD L,D, 0x6A (R200). -/
def execLd_L_D (s : State) : Result := loadReg .l .d s

/-- LD L,E, 0x6B (R200). -/
def execLd_L_E (s : State) : Result := loadReg .l .e s

/-- LD L,H, 0x6C (R200). -/
def execLd_L_H (s : State) : Result := loadReg .l .h s

/-- LD L,L, 0x6D (R200). -/
def execLd_L_L (s : State) : Result := loadReg .l .l s

/-- LD L,(HL), 0x6E (R202). -/
def execLd_L_atHL (s : State) : Result := loadRegAtHL .l s

/-- LD L,A, 0x6F (R200). -/
def execLd_L_A (s : State) : Result := loadReg .l .a s

/-- LD (HL),B, 0x70 (R203). -/
def execLd_atHL_B (s : State) : Result := storeRegAtHL .b s

/-- LD (HL),C, 0x71 (R203). -/
def execLd_atHL_C (s : State) : Result := storeRegAtHL .c s

/-- LD (HL),D, 0x72 (R203). -/
def execLd_atHL_D (s : State) : Result := storeRegAtHL .d s

/-- LD (HL),E, 0x73 (R203). -/
def execLd_atHL_E (s : State) : Result := storeRegAtHL .e s

/-- LD (HL),H, 0x74 (R203). -/
def execLd_atHL_H (s : State) : Result := storeRegAtHL .h s

/-- LD (HL),L, 0x75 (R203). -/
def execLd_atHL_L (s : State) : Result := storeRegAtHL .l s

/-- LD (HL),A, 0x77 (R203). -/
def execLd_atHL_A (s : State) : Result := storeRegAtHL .a s

/-- LD A,B, 0x78 (R200). -/
def execLd_A_B (s : State) : Result := loadReg .a .b s

/-- LD A,C, 0x79 (R200). -/
def execLd_A_C (s : State) : Result := loadReg .a .c s

/-- LD A,D, 0x7A (R200). -/
def execLd_A_D (s : State) : Result := loadReg .a .d s

/-- LD A,E, 0x7B (R200). -/
def execLd_A_E (s : State) : Result := loadReg .a .e s

/-- LD A,H, 0x7C (R200). -/
def execLd_A_H (s : State) : Result := loadReg .a .h s

/-- LD A,L, 0x7D (R200). -/
def execLd_A_L (s : State) : Result := loadReg .a .l s

/-- LD A,(HL), 0x7E (R202). -/
def execLd_A_atHL (s : State) : Result := loadRegAtHL .a s

/-- LD A,A, 0x7F (R200). -/
def execLd_A_A (s : State) : Result := loadReg .a .a s

/-- POP BC, 0xC1 (R223). -/
def execPop_BC (s : State) : Result := popPair .bc s

/-- PUSH BC, 0xC5 (R222). -/
def execPush_BC (s : State) : Result := pushPair .bc s

/-- POP DE, 0xD1 (R223). -/
def execPop_DE (s : State) : Result := popPair .de s

/-- PUSH DE, 0xD5 (R222). -/
def execPush_DE (s : State) : Result := pushPair .de s

/-- LDH (n),A, 0xE0 (R214). -/
def execLdh_atN_A (n : Byte) (s : State) : Result := storeA 12 (highPage n) s

/-- POP HL, 0xE1 (R223). -/
def execPop_HL (s : State) : Result := popPair .hl s

/-- LD (C),A, 0xE2 (R212). -/
def execLd_atC_A (s : State) : Result := storeA 8 (highPage s.regs.c) s

/-- PUSH HL, 0xE5 (R222). -/
def execPush_HL (s : State) : Result := pushPair .hl s

/-- LD (nn),A, 0xEA (R210). -/
def execLd_atNn_A (nn : Word) (s : State) : Result := storeA 16 nn s

/-- LDH A,(n), 0xF0 (R213). -/
def execLdh_A_atN (n : Byte) (s : State) : Result := loadA 12 (highPage n) s

/-- POP AF, 0xF1 (R223). -/
def execPop_AF (s : State) : Result := popPair .af s

/-- LD A,(C), 0xF2 (R211). -/
def execLd_A_atC (s : State) : Result := loadA 8 (highPage s.regs.c) s

/-- PUSH AF, 0xF5 (R222). -/
def execPush_AF (s : State) : Result := pushPair .af s

/-- LD SP,HL, 0xF9 (R221). -/
def execLd_SP_HL (s : State) : Result := finish 8 (s.setSp s.hl)

/-- LD A,(nn), 0xFA (R209). -/
def execLd_A_atNn (nn : Word) (s : State) : Result := loadA 16 nn s

end Sys2Proof.Machine
end

