-- ==== Sys2Proof/Machine/Cycle.lean ====
section
/-!
DEFINITION. One call of `Cycle()` (R390): fetching and decoding (R391), the IME commit (R392), the halted
tick, the wake and the interrupt dispatch (R418–R422); and placing an instruction word where the next
step fetches.
-/

namespace Sys2Proof.Machine

/-- Fetch the bytes of the next instruction, in order, and decode them. The first byte alone says how
many follow, and every instruction fetches all its bytes before it does anything else (R160, R391). -/
def fetchInstr (s : State) : Instr × State :=
  match decodeMain (fetch8 s).1 with
  | .one i => (i, (fetch8 s).2)
  | .two i => (i (fetch8 (fetch8 s).2).1, (fetch8 (fetch8 s).2).2)
  | .three i =>
    (i (wordOf (fetch8 (fetch8 (fetch8 s).2).2).1 (fetch8 (fetch8 s).2).1),
      (fetch8 (fetch8 (fetch8 s).2).2).2)

/-- The IME commit at the end of a step that executed an instruction: `sched` is IME_SCHED as it was at
the start of the step. A fault stop does not commit (R390, R392). -/
def commitIme (sched : Bool) (s : State) : State :=
  if sched && s.imeSched && s.fault.isNone then { s with ime := true, imeSched := false } else s

/-- Apply the commit to the outcome of an instruction. -/
def commitResult (sched : Bool) (r : Result) : Result :=
  match r with
  | .next s => .next (commitIme sched s)
  | .fault f => .fault f
  | .refused f => .refused f

/-- The Running tick: fetch, decode, execute, commit (R390, R391). -/
def runInstruction (s : State) : Result :=
  commitResult s.imeSched (exec (fetchInstr s).1 (fetchInstr s).2)

/-- A step that begins halted: a halted tick changes nothing, and a pending source wakes the CPU; each
takes 4 T-cycles (R421, R422). -/
def haltedStep (s : State) : Result :=
  if pending s = 0 then finish 4 s else finish 4 { s with halted := false }

/-- The source dispatched at the start of a step that begins Running, if any (R418). -/
def dispatchSource (s : State) : Option IrqSource :=
  if s.ime then firstPending (pending s) else none

/-- A step that begins Running: a dispatch, reporting 20 T-cycles, or an instruction (R390, R418, R420). -/
def runningStep (s : State) : Result :=
  match dispatchSource s with
  | some k => finish 20 (dispatchInterrupt k s)
  | none => runInstruction s

/-- `Cycle()` (R390). With FAULT set there is no step (R32, R411). -/
def cycle (s : State) : Result :=
  match s.fault with
  | some f => .fault (.invalidOpcode f)
  | none => if s.halted then haltedStep s else runningStep s

/-! ### Placing an instruction -/

/-- Whether `placeByte` can make a fetch at the address give any byte. -/
def placeable (a : Word) (s : State) : Bool :=
  match target a s with
  | .boot => true
  | .lowRom => s.cart.romIndex (s.cart.bankAt a) (a.toNat % 0x4000) < s.cart.romLen
  | .rom => s.cart.romIndex (s.cart.bankAt a) (a.toNat % 0x4000) < s.cart.romLen
  | .cell (.cartRam _) => false
  | .cell _ => true
  | _ => false

/-- Put a byte into the ROM image where the address reads it now. -/
def placeRom (a : Word) (v : Byte) (s : State) : State :=
  { s with cart := { s.cart with
      rom := Memory.write 0x00 s.cart.rom (s.cart.romIndex (s.cart.bankAt a) (a.toNat % 0x4000)) v } }

/-- Put a byte where a fetch at the address reads it: into the boot buffer, the ROM image or a RAM cell.
This is the host loading a program, no store of the machine. -/
def placeByte (a : Word) (v : Byte) (s : State) : State :=
  match target a s with
  | .boot => { s with bus := { s.bus with boot := Memory.write 0x00 s.bus.boot a.toNat v } }
  | .lowRom => placeRom a v s
  | .rom => placeRom a v s
  | .cell c => writeCell c v s
  | _ => s

/-- The state in which the next step executes an instruction: not stopped, Running, and not about to
dispatch; at a PC where three bytes can be placed, else at the start of WRAM. -/
def readyToFetch (s : State) : State :=
  { s with
    fault := none
    halted := false
    ime := s.ime && pending s == 0
    regs := { s.regs with
      pc :=
        if placeable s.regs.pc s && placeable (s.regs.pc + 1) s && placeable (s.regs.pc + 2) s then
          s.regs.pc
        else 0xC000 } }

/-- The three bytes of an instruction word placed at PC of a state that is ready to fetch. -/
def placeFetchWord (nbits w : Nat) (s : State) : State :=
  let t := readyToFetch s
  placeByte (t.regs.pc + 2) (tableBytes nbits w).2.2
    (placeByte (t.regs.pc + 1) (tableBytes nbits w).2.1
      (placeByte t.regs.pc (tableBytes nbits w).1 t))

end Sys2Proof.Machine
end

