-- ==== Sys2Proof/Machine/Step.lean ====
section
/-!
DEFINITION. The step of the machine is one call of `Cycle()` (R390); and an instruction word placed where
the next step fetches it.
-/

namespace Sys2Proof.Machine

/-- One step (R390). -/
def step (s : State) : Host.Outcome State Fault Refusal := cycle s

/-- The state with an instruction word of spec/opcode_table.json stored where `step` fetches next. -/
def State.withFetchWord (s : State) (nbits w : Nat) : State := placeFetchWord nbits w s

end Sys2Proof.Machine
end

