-- ==== Sys2Proof/Machine/Catalog.lean ====
section
/-!
DEFINITION. The descriptors of the two catalogs, from spec/opcode_table.json: mnemonic (display only),
length and T-cycle costs (R37, R173, R174, R178, R179). The bound operation is `exec`'s arm. No meaning
reads a descriptor: each meaning reports its own count, and the two are compared by a statement.
-/

namespace Sys2Proof.Machine

/-- A catalog entry (R178). `cycles` is the base cost, for a two-figure instruction the cost taken;
`branch` is then its condition and the cost not taken (R179). The escape and the INVALID slots have no
cost of their own (R173). -/
structure Descriptor where
  mnemonic : String
  length : Nat
  cycles : Option Nat
  branch : Option (Cond × Nat)
deriving DecidableEq, Repr

/-- The catalog entry of an instruction (R173, R174). -/
def descriptor : Instr → Descriptor
  | .nop => ⟨"NOP", 1, some 4, none⟩
  | .ld_BC_nn _ => ⟨"LD BC,nn", 3, some 12, none⟩
  | .ld_atBC_A => ⟨"LD (BC),A", 1, some 8, none⟩
  | .inc_BC => ⟨"INC BC", 1, some 8, none⟩
  | .inc_B => ⟨"INC B", 1, some 4, none⟩
  | .dec_B => ⟨"DEC B", 1, some 4, none⟩
  | .ld_B_n _ => ⟨"LD B,n", 2, some 8, none⟩
  | .rlca => ⟨"RLCA", 1, some 4, none⟩
  | .ld_atNn_SP _ => ⟨"LD (nn),SP", 3, some 20, none⟩
  | .add_HL_BC => ⟨"ADD HL,BC", 1, some 8, none⟩
  | .ld_A_atBC => ⟨"LD A,(BC)", 1, some 8, none⟩
  | .dec_BC => ⟨"DEC BC", 1, some 8, none⟩
  | .inc_C => ⟨"INC C", 1, some 4, none⟩
  | .dec_C => ⟨"DEC C", 1, some 4, none⟩
  | .ld_C_n _ => ⟨"LD C,n", 2, some 8, none⟩
  | .rrca => ⟨"RRCA", 1, some 4, none⟩
  | .stop _ => ⟨"STOP", 2, some 4, none⟩
  | .ld_DE_nn _ => ⟨"LD DE,nn", 3, some 12, none⟩
  | .ld_atDE_A => ⟨"LD (DE),A", 1, some 8, none⟩
  | .inc_DE => ⟨"INC DE", 1, some 8, none⟩
  | .inc_D => ⟨"INC D", 1, some 4, none⟩
  | .dec_D => ⟨"DEC D", 1, some 4, none⟩
  | .ld_D_n _ => ⟨"LD D,n", 2, some 8, none⟩
  | .rla => ⟨"RLA", 1, some 4, none⟩
  | .jr_e _ => ⟨"JR e", 2, some 12, none⟩
  | .add_HL_DE => ⟨"ADD HL,DE", 1, some 8, none⟩
  | .ld_A_atDE => ⟨"LD A,(DE)", 1, some 8, none⟩
  | .dec_DE => ⟨"DEC DE", 1, some 8, none⟩
  | .inc_E => ⟨"INC E", 1, some 4, none⟩
  | .dec_E => ⟨"DEC E", 1, some 4, none⟩
  | .ld_E_n _ => ⟨"LD E,n", 2, some 8, none⟩
  | .rra => ⟨"RRA", 1, some 4, none⟩
  | .jr_NZ_e _ => ⟨"JR NZ,e", 2, some 12, some (.nz, 8)⟩
  | .ld_HL_nn _ => ⟨"LD HL,nn", 3, some 12, none⟩
  | .ld_atHLi_A => ⟨"LD (HL+),A", 1, some 8, none⟩
  | .inc_HL => ⟨"INC HL", 1, some 8, none⟩
  | .inc_H => ⟨"INC H", 1, some 4, none⟩
  | .dec_H => ⟨"DEC H", 1, some 4, none⟩
  | .ld_H_n _ => ⟨"LD H,n", 2, some 8, none⟩
  | .daa => ⟨"DAA", 1, some 4, none⟩
  | .jr_Z_e _ => ⟨"JR Z,e", 2, some 12, some (.z, 8)⟩
  | .add_HL_HL => ⟨"ADD HL,HL", 1, some 8, none⟩
  | .ld_A_atHLi => ⟨"LD A,(HL+)", 1, some 8, none⟩
  | .dec_HL => ⟨"DEC HL", 1, some 8, none⟩
  | .inc_L => ⟨"INC L", 1, some 4, none⟩
  | .dec_L => ⟨"DEC L", 1, some 4, none⟩
  | .ld_L_n _ => ⟨"LD L,n", 2, some 8, none⟩
  | .cpl => ⟨"CPL", 1, some 4, none⟩
  | .jr_NC_e _ => ⟨"JR NC,e", 2, some 12, some (.nc, 8)⟩
  | .ld_SP_nn _ => ⟨"LD SP,nn", 3, some 12, none⟩
  | .ld_atHLd_A => ⟨"LD (HL-),A", 1, some 8, none⟩
  | .inc_SP => ⟨"INC SP", 1, some 8, none⟩
  | .inc_atHL => ⟨"INC (HL)", 1, some 12, none⟩
  | .dec_atHL => ⟨"DEC (HL)", 1, some 12, none⟩
  | .ld_atHL_n _ => ⟨"LD (HL),n", 2, some 12, none⟩
  | .scf => ⟨"SCF", 1, some 4, none⟩
  | .jr_C_e _ => ⟨"JR C,e", 2, some 12, some (.c, 8)⟩
  | .add_HL_SP => ⟨"ADD HL,SP", 1, some 8, none⟩
  | .ld_A_atHLd => ⟨"LD A,(HL-)", 1, some 8, none⟩
  | .dec_SP => ⟨"DEC SP", 1, some 8, none⟩
  | .inc_A => ⟨"INC A", 1, some 4, none⟩
  | .dec_A => ⟨"DEC A", 1, some 4, none⟩
  | .ld_A_n _ => ⟨"LD A,n", 2, some 8, none⟩
  | .ccf => ⟨"CCF", 1, some 4, none⟩
  | .ld_B_B => ⟨"LD B,B", 1, some 4, none⟩
  | .ld_B_C => ⟨"LD B,C", 1, some 4, none⟩
  | .ld_B_D => ⟨"LD B,D", 1, some 4, none⟩
  | .ld_B_E => ⟨"LD B,E", 1, some 4, none⟩
  | .ld_B_H => ⟨"LD B,H", 1, some 4, none⟩
  | .ld_B_L => ⟨"LD B,L", 1, some 4, none⟩
  | .ld_B_atHL => ⟨"LD B,(HL)", 1, some 8, none⟩
  | .ld_B_A => ⟨"LD B,A", 1, some 4, none⟩
  | .ld_C_B => ⟨"LD C,B", 1, some 4, none⟩
  | .ld_C_C => ⟨"LD C,C", 1, some 4, none⟩
  | .ld_C_D => ⟨"LD C,D", 1, some 4, none⟩
  | .ld_C_E => ⟨"LD C,E", 1, some 4, none⟩
  | .ld_C_H => ⟨"LD C,H", 1, some 4, none⟩
  | .ld_C_L => ⟨"LD C,L", 1, some 4, none⟩
  | .ld_C_atHL => ⟨"LD C,(HL)", 1, some 8, none⟩
  | .ld_C_A => ⟨"LD C,A", 1, some 4, none⟩
  | .ld_D_B => ⟨"LD D,B", 1, some 4, none⟩
  | .ld_D_C => ⟨"LD D,C", 1, some 4, none⟩
  | .ld_D_D => ⟨"LD D,D", 1, some 4, none⟩
  | .ld_D_E => ⟨"LD D,E", 1, some 4, none⟩
  | .ld_D_H => ⟨"LD D,H", 1, some 4, none⟩
  | .ld_D_L => ⟨"LD D,L", 1, some 4, none⟩
  | .ld_D_atHL => ⟨"LD D,(HL)", 1, some 8, none⟩
  | .ld_D_A => ⟨"LD D,A", 1, some 4, none⟩
  | .ld_E_B => ⟨"LD E,B", 1, some 4, none⟩
  | .ld_E_C => ⟨"LD E,C", 1, some 4, none⟩
  | .ld_E_D => ⟨"LD E,D", 1, some 4, none⟩
  | .ld_E_E => ⟨"LD E,E", 1, some 4, none⟩
  | .ld_E_H => ⟨"LD E,H", 1, some 4, none⟩
  | .ld_E_L => ⟨"LD E,L", 1, some 4, none⟩
  | .ld_E_atHL => ⟨"LD E,(HL)", 1, some 8, none⟩
  | .ld_E_A => ⟨"LD E,A", 1, some 4, none⟩
  | .ld_H_B => ⟨"LD H,B", 1, some 4, none⟩
  | .ld_H_C => ⟨"LD H,C", 1, some 4, none⟩
  | .ld_H_D => ⟨"LD H,D", 1, some 4, none⟩
  | .ld_H_E => ⟨"LD H,E", 1, some 4, none⟩
  | .ld_H_H => ⟨"LD H,H", 1, some 4, none⟩
  | .ld_H_L => ⟨"LD H,L", 1, some 4, none⟩
  | .ld_H_atHL => ⟨"LD H,(HL)", 1, some 8, none⟩
  | .ld_H_A => ⟨"LD H,A", 1, some 4, none⟩
  | .ld_L_B => ⟨"LD L,B", 1, some 4, none⟩
  | .ld_L_C => ⟨"LD L,C", 1, some 4, none⟩
  | .ld_L_D => ⟨"LD L,D", 1, some 4, none⟩
  | .ld_L_E => ⟨"LD L,E", 1, some 4, none⟩
  | .ld_L_H => ⟨"LD L,H", 1, some 4, none⟩
  | .ld_L_L => ⟨"LD L,L", 1, some 4, none⟩
  | .ld_L_atHL => ⟨"LD L,(HL)", 1, some 8, none⟩
  | .ld_L_A => ⟨"LD L,A", 1, some 4, none⟩
  | .ld_atHL_B => ⟨"LD (HL),B", 1, some 8, none⟩
  | .ld_atHL_C => ⟨"LD (HL),C", 1, some 8, none⟩
  | .ld_atHL_D => ⟨"LD (HL),D", 1, some 8, none⟩
  | .ld_atHL_E => ⟨"LD (HL),E", 1, some 8, none⟩
  | .ld_atHL_H => ⟨"LD (HL),H", 1, some 8, none⟩
  | .ld_atHL_L => ⟨"LD (HL),L", 1, some 8, none⟩
  | .halt => ⟨"HALT", 1, some 4, none⟩
  | .ld_atHL_A => ⟨"LD (HL),A", 1, some 8, none⟩
  | .ld_A_B => ⟨"LD A,B", 1, some 4, none⟩
  | .ld_A_C => ⟨"LD A,C", 1, some 4, none⟩
  | .ld_A_D => ⟨"LD A,D", 1, some 4, none⟩
  | .ld_A_E => ⟨"LD A,E", 1, some 4, none⟩
  | .ld_A_H => ⟨"LD A,H", 1, some 4, none⟩
  | .ld_A_L => ⟨"LD A,L", 1, some 4, none⟩
  | .ld_A_atHL => ⟨"LD A,(HL)", 1, some 8, none⟩
  | .ld_A_A => ⟨"LD A,A", 1, some 4, none⟩
  | .add_A_B => ⟨"ADD A,B", 1, some 4, none⟩
  | .add_A_C => ⟨"ADD A,C", 1, some 4, none⟩
  | .add_A_D => ⟨"ADD A,D", 1, some 4, none⟩
  | .add_A_E => ⟨"ADD A,E", 1, some 4, none⟩
  | .add_A_H => ⟨"ADD A,H", 1, some 4, none⟩
  | .add_A_L => ⟨"ADD A,L", 1, some 4, none⟩
  | .add_A_atHL => ⟨"ADD A,(HL)", 1, some 8, none⟩
  | .add_A_A => ⟨"ADD A,A", 1, some 4, none⟩
  | .adc_A_B => ⟨"ADC A,B", 1, some 4, none⟩
  | .adc_A_C => ⟨"ADC A,C", 1, some 4, none⟩
  | .adc_A_D => ⟨"ADC A,D", 1, some 4, none⟩
  | .adc_A_E => ⟨"ADC A,E", 1, some 4, none⟩
  | .adc_A_H => ⟨"ADC A,H", 1, some 4, none⟩
  | .adc_A_L => ⟨"ADC A,L", 1, some 4, none⟩
  | .adc_A_atHL => ⟨"ADC A,(HL)", 1, some 8, none⟩
  | .adc_A_A => ⟨"ADC A,A", 1, some 4, none⟩
  | .sub_B => ⟨"SUB B", 1, some 4, none⟩
  | .sub_C => ⟨"SUB C", 1, some 4, none⟩
  | .sub_D => ⟨"SUB D", 1, some 4, none⟩
  | .sub_E => ⟨"SUB E", 1, some 4, none⟩
  | .sub_H => ⟨"SUB H", 1, some 4, none⟩
  | .sub_L => ⟨"SUB L", 1, some 4, none⟩
  | .sub_atHL => ⟨"SUB (HL)", 1, some 8, none⟩
  | .sub_A => ⟨"SUB A", 1, some 4, none⟩
  | .sbc_A_B => ⟨"SBC A,B", 1, some 4, none⟩
  | .sbc_A_C => ⟨"SBC A,C", 1, some 4, none⟩
  | .sbc_A_D => ⟨"SBC A,D", 1, some 4, none⟩
  | .sbc_A_E => ⟨"SBC A,E", 1, some 4, none⟩
  | .sbc_A_H => ⟨"SBC A,H", 1, some 4, none⟩
  | .sbc_A_L => ⟨"SBC A,L", 1, some 4, none⟩
  | .sbc_A_atHL => ⟨"SBC A,(HL)", 1, some 8, none⟩
  | .sbc_A_A => ⟨"SBC A,A", 1, some 4, none⟩
  | .and_B => ⟨"AND B", 1, some 4, none⟩
  | .and_C => ⟨"AND C", 1, some 4, none⟩
  | .and_D => ⟨"AND D", 1, some 4, none⟩
  | .and_E => ⟨"AND E", 1, some 4, none⟩
  | .and_H => ⟨"AND H", 1, some 4, none⟩
  | .and_L => ⟨"AND L", 1, some 4, none⟩
  | .and_atHL => ⟨"AND (HL)", 1, some 8, none⟩
  | .and_A => ⟨"AND A", 1, some 4, none⟩
  | .xor_B => ⟨"XOR B", 1, some 4, none⟩
  | .xor_C => ⟨"XOR C", 1, some 4, none⟩
  | .xor_D => ⟨"XOR D", 1, some 4, none⟩
  | .xor_E => ⟨"XOR E", 1, some 4, none⟩
  | .xor_H => ⟨"XOR H", 1, some 4, none⟩
  | .xor_L => ⟨"XOR L", 1, some 4, none⟩
  | .xor_atHL => ⟨"XOR (HL)", 1, some 8, none⟩
  | .xor_A => ⟨"XOR A", 1, some 4, none⟩
  | .or_B => ⟨"OR B", 1, some 4, none⟩
  | .or_C => ⟨"OR C", 1, some 4, none⟩
  | .or_D => ⟨"OR D", 1, some 4, none⟩
  | .or_E => ⟨"OR E", 1, some 4, none⟩
  | .or_H => ⟨"OR H", 1, some 4, none⟩
  | .or_L => ⟨"OR L", 1, some 4, none⟩
  | .or_atHL => ⟨"OR (HL)", 1, some 8, none⟩
  | .or_A => ⟨"OR A", 1, some 4, none⟩
  | .cp_B => ⟨"CP B", 1, some 4, none⟩
  | .cp_C => ⟨"CP C", 1, some 4, none⟩
  | .cp_D => ⟨"CP D", 1, some 4, none⟩
  | .cp_E => ⟨"CP E", 1, some 4, none⟩
  | .cp_H => ⟨"CP H", 1, some 4, none⟩
  | .cp_L => ⟨"CP L", 1, some 4, none⟩
  | .cp_atHL => ⟨"CP (HL)", 1, some 8, none⟩
  | .cp_A => ⟨"CP A", 1, some 4, none⟩
  | .ret_NZ => ⟨"RET NZ", 1, some 20, some (.nz, 8)⟩
  | .pop_BC => ⟨"POP BC", 1, some 12, none⟩
  | .jp_NZ_nn _ => ⟨"JP NZ,nn", 3, some 16, some (.nz, 12)⟩
  | .jp_nn _ => ⟨"JP nn", 3, some 16, none⟩
  | .call_NZ_nn _ => ⟨"CALL NZ,nn", 3, some 24, some (.nz, 12)⟩
  | .push_BC => ⟨"PUSH BC", 1, some 16, none⟩
  | .add_A_n _ => ⟨"ADD A,n", 2, some 8, none⟩
  | .rst_00 => ⟨"RST 00H", 1, some 16, none⟩
  | .ret_Z => ⟨"RET Z", 1, some 20, some (.z, 8)⟩
  | .ret => ⟨"RET", 1, some 16, none⟩
  | .jp_Z_nn _ => ⟨"JP Z,nn", 3, some 16, some (.z, 12)⟩
  | .prefixCb => ⟨"PREFIX CB", 2, none, none⟩
  | .call_Z_nn _ => ⟨"CALL Z,nn", 3, some 24, some (.z, 12)⟩
  | .call_nn _ => ⟨"CALL nn", 3, some 24, none⟩
  | .adc_A_n _ => ⟨"ADC A,n", 2, some 8, none⟩
  | .rst_08 => ⟨"RST 08H", 1, some 16, none⟩
  | .ret_NC => ⟨"RET NC", 1, some 20, some (.nc, 8)⟩
  | .pop_DE => ⟨"POP DE", 1, some 12, none⟩
  | .jp_NC_nn _ => ⟨"JP NC,nn", 3, some 16, some (.nc, 12)⟩
  | .invalid_D3 => ⟨"INVALID", 1, none, none⟩
  | .call_NC_nn _ => ⟨"CALL NC,nn", 3, some 24, some (.nc, 12)⟩
  | .push_DE => ⟨"PUSH DE", 1, some 16, none⟩
  | .sub_n _ => ⟨"SUB n", 2, some 8, none⟩
  | .rst_10 => ⟨"RST 10H", 1, some 16, none⟩
  | .ret_C => ⟨"RET C", 1, some 20, some (.c, 8)⟩
  | .reti => ⟨"RETI", 1, some 16, none⟩
  | .jp_C_nn _ => ⟨"JP C,nn", 3, some 16, some (.c, 12)⟩
  | .invalid_DB => ⟨"INVALID", 1, none, none⟩
  | .call_C_nn _ => ⟨"CALL C,nn", 3, some 24, some (.c, 12)⟩
  | .invalid_DD => ⟨"INVALID", 1, none, none⟩
  | .sbc_A_n _ => ⟨"SBC A,n", 2, some 8, none⟩
  | .rst_18 => ⟨"RST 18H", 1, some 16, none⟩
  | .ldh_atN_A _ => ⟨"LDH (n),A", 2, some 12, none⟩
  | .pop_HL => ⟨"POP HL", 1, some 12, none⟩
  | .ld_atC_A => ⟨"LD (C),A", 1, some 8, none⟩
  | .invalid_E3 => ⟨"INVALID", 1, none, none⟩
  | .invalid_E4 => ⟨"INVALID", 1, none, none⟩
  | .push_HL => ⟨"PUSH HL", 1, some 16, none⟩
  | .and_n _ => ⟨"AND n", 2, some 8, none⟩
  | .rst_20 => ⟨"RST 20H", 1, some 16, none⟩
  | .add_SP_e _ => ⟨"ADD SP,e", 2, some 16, none⟩
  | .jp_HL => ⟨"JP HL", 1, some 4, none⟩
  | .ld_atNn_A _ => ⟨"LD (nn),A", 3, some 16, none⟩
  | .invalid_EB => ⟨"INVALID", 1, none, none⟩
  | .invalid_EC => ⟨"INVALID", 1, none, none⟩
  | .invalid_ED => ⟨"INVALID", 1, none, none⟩
  | .xor_n _ => ⟨"XOR n", 2, some 8, none⟩
  | .rst_28 => ⟨"RST 28H", 1, some 16, none⟩
  | .ldh_A_atN _ => ⟨"LDH A,(n)", 2, some 12, none⟩
  | .pop_AF => ⟨"POP AF", 1, some 12, none⟩
  | .ld_A_atC => ⟨"LD A,(C)", 1, some 8, none⟩
  | .di => ⟨"DI", 1, some 4, none⟩
  | .invalid_F4 => ⟨"INVALID", 1, none, none⟩
  | .push_AF => ⟨"PUSH AF", 1, some 16, none⟩
  | .or_n _ => ⟨"OR n", 2, some 8, none⟩
  | .rst_30 => ⟨"RST 30H", 1, some 16, none⟩
  | .ld_HL_SPe _ => ⟨"LD HL,SP+e", 2, some 12, none⟩
  | .ld_SP_HL => ⟨"LD SP,HL", 1, some 8, none⟩
  | .ld_A_atNn _ => ⟨"LD A,(nn)", 3, some 16, none⟩
  | .ei => ⟨"EI", 1, some 4, none⟩
  | .invalid_FC => ⟨"INVALID", 1, none, none⟩
  | .invalid_FD => ⟨"INVALID", 1, none, none⟩
  | .cp_n _ => ⟨"CP n", 2, some 8, none⟩
  | .rst_38 => ⟨"RST 38H", 1, some 16, none⟩
  | .rlc_B => ⟨"RLC B", 2, some 8, none⟩
  | .rlc_C => ⟨"RLC C", 2, some 8, none⟩
  | .rlc_D => ⟨"RLC D", 2, some 8, none⟩
  | .rlc_E => ⟨"RLC E", 2, some 8, none⟩
  | .rlc_H => ⟨"RLC H", 2, some 8, none⟩
  | .rlc_L => ⟨"RLC L", 2, some 8, none⟩
  | .rlc_atHL => ⟨"RLC (HL)", 2, some 16, none⟩
  | .rlc_A => ⟨"RLC A", 2, some 8, none⟩
  | .rrc_B => ⟨"RRC B", 2, some 8, none⟩
  | .rrc_C => ⟨"RRC C", 2, some 8, none⟩
  | .rrc_D => ⟨"RRC D", 2, some 8, none⟩
  | .rrc_E => ⟨"RRC E", 2, some 8, none⟩
  | .rrc_H => ⟨"RRC H", 2, some 8, none⟩
  | .rrc_L => ⟨"RRC L", 2, some 8, none⟩
  | .rrc_atHL => ⟨"RRC (HL)", 2, some 16, none⟩
  | .rrc_A => ⟨"RRC A", 2, some 8, none⟩
  | .rl_B => ⟨"RL B", 2, some 8, none⟩
  | .rl_C => ⟨"RL C", 2, some 8, none⟩
  | .rl_D => ⟨"RL D", 2, some 8, none⟩
  | .rl_E => ⟨"RL E", 2, some 8, none⟩
  | .rl_H => ⟨"RL H", 2, some 8, none⟩
  | .rl_L => ⟨"RL L", 2, some 8, none⟩
  | .rl_atHL => ⟨"RL (HL)", 2, some 16, none⟩
  | .rl_A => ⟨"RL A", 2, some 8, none⟩
  | .rr_B => ⟨"RR B", 2, some 8, none⟩
  | .rr_C => ⟨"RR C", 2, some 8, none⟩
  | .rr_D => ⟨"RR D", 2, some 8, none⟩
  | .rr_E => ⟨"RR E", 2, some 8, none⟩
  | .rr_H => ⟨"RR H", 2, some 8, none⟩
  | .rr_L => ⟨"RR L", 2, some 8, none⟩
  | .rr_atHL => ⟨"RR (HL)", 2, some 16, none⟩
  | .rr_A => ⟨"RR A", 2, some 8, none⟩
  | .sla_B => ⟨"SLA B", 2, some 8, none⟩
  | .sla_C => ⟨"SLA C", 2, some 8, none⟩
  | .sla_D => ⟨"SLA D", 2, some 8, none⟩
  | .sla_E => ⟨"SLA E", 2, some 8, none⟩
  | .sla_H => ⟨"SLA H", 2, some 8, none⟩
  | .sla_L => ⟨"SLA L", 2, some 8, none⟩
  | .sla_atHL => ⟨"SLA (HL)", 2, some 16, none⟩
  | .sla_A => ⟨"SLA A", 2, some 8, none⟩
  | .sra_B => ⟨"SRA B", 2, some 8, none⟩
  | .sra_C => ⟨"SRA C", 2, some 8, none⟩
  | .sra_D => ⟨"SRA D", 2, some 8, none⟩
  | .sra_E => ⟨"SRA E", 2, some 8, none⟩
  | .sra_H => ⟨"SRA H", 2, some 8, none⟩
  | .sra_L => ⟨"SRA L", 2, some 8, none⟩
  | .sra_atHL => ⟨"SRA (HL)", 2, some 16, none⟩
  | .sra_A => ⟨"SRA A", 2, some 8, none⟩
  | .swap_B => ⟨"SWAP B", 2, some 8, none⟩
  | .swap_C => ⟨"SWAP C", 2, some 8, none⟩
  | .swap_D => ⟨"SWAP D", 2, some 8, none⟩
  | .swap_E => ⟨"SWAP E", 2, some 8, none⟩
  | .swap_H => ⟨"SWAP H", 2, some 8, none⟩
  | .swap_L => ⟨"SWAP L", 2, some 8, none⟩
  | .swap_atHL => ⟨"SWAP (HL)", 2, some 16, none⟩
  | .swap_A => ⟨"SWAP A", 2, some 8, none⟩
  | .srl_B => ⟨"SRL B", 2, some 8, none⟩
  | .srl_C => ⟨"SRL C", 2, some 8, none⟩
  | .srl_D => ⟨"SRL D", 2, some 8, none⟩
  | .srl_E => ⟨"SRL E", 2, some 8, none⟩
  | .srl_H => ⟨"SRL H", 2, some 8, none⟩
  | .srl_L => ⟨"SRL L", 2, some 8, none⟩
  | .srl_atHL => ⟨"SRL (HL)", 2, some 16, none⟩
  | .srl_A => ⟨"SRL A", 2, some 8, none⟩
  | .bit_0_B => ⟨"BIT 0,B", 2, some 8, none⟩
  | .bit_0_C => ⟨"BIT 0,C", 2, some 8, none⟩
  | .bit_0_D => ⟨"BIT 0,D", 2, some 8, none⟩
  | .bit_0_E => ⟨"BIT 0,E", 2, some 8, none⟩
  | .bit_0_H => ⟨"BIT 0,H", 2, some 8, none⟩
  | .bit_0_L => ⟨"BIT 0,L", 2, some 8, none⟩
  | .bit_0_atHL => ⟨"BIT 0,(HL)", 2, some 12, none⟩
  | .bit_0_A => ⟨"BIT 0,A", 2, some 8, none⟩
  | .bit_1_B => ⟨"BIT 1,B", 2, some 8, none⟩
  | .bit_1_C => ⟨"BIT 1,C", 2, some 8, none⟩
  | .bit_1_D => ⟨"BIT 1,D", 2, some 8, none⟩
  | .bit_1_E => ⟨"BIT 1,E", 2, some 8, none⟩
  | .bit_1_H => ⟨"BIT 1,H", 2, some 8, none⟩
  | .bit_1_L => ⟨"BIT 1,L", 2, some 8, none⟩
  | .bit_1_atHL => ⟨"BIT 1,(HL)", 2, some 12, none⟩
  | .bit_1_A => ⟨"BIT 1,A", 2, some 8, none⟩
  | .bit_2_B => ⟨"BIT 2,B", 2, some 8, none⟩
  | .bit_2_C => ⟨"BIT 2,C", 2, some 8, none⟩
  | .bit_2_D => ⟨"BIT 2,D", 2, some 8, none⟩
  | .bit_2_E => ⟨"BIT 2,E", 2, some 8, none⟩
  | .bit_2_H => ⟨"BIT 2,H", 2, some 8, none⟩
  | .bit_2_L => ⟨"BIT 2,L", 2, some 8, none⟩
  | .bit_2_atHL => ⟨"BIT 2,(HL)", 2, some 12, none⟩
  | .bit_2_A => ⟨"BIT 2,A", 2, some 8, none⟩
  | .bit_3_B => ⟨"BIT 3,B", 2, some 8, none⟩
  | .bit_3_C => ⟨"BIT 3,C", 2, some 8, none⟩
  | .bit_3_D => ⟨"BIT 3,D", 2, some 8, none⟩
  | .bit_3_E => ⟨"BIT 3,E", 2, some 8, none⟩
  | .bit_3_H => ⟨"BIT 3,H", 2, some 8, none⟩
  | .bit_3_L => ⟨"BIT 3,L", 2, some 8, none⟩
  | .bit_3_atHL => ⟨"BIT 3,(HL)", 2, some 12, none⟩
  | .bit_3_A => ⟨"BIT 3,A", 2, some 8, none⟩
  | .bit_4_B => ⟨"BIT 4,B", 2, some 8, none⟩
  | .bit_4_C => ⟨"BIT 4,C", 2, some 8, none⟩
  | .bit_4_D => ⟨"BIT 4,D", 2, some 8, none⟩
  | .bit_4_E => ⟨"BIT 4,E", 2, some 8, none⟩
  | .bit_4_H => ⟨"BIT 4,H", 2, some 8, none⟩
  | .bit_4_L => ⟨"BIT 4,L", 2, some 8, none⟩
  | .bit_4_atHL => ⟨"BIT 4,(HL)", 2, some 12, none⟩
  | .bit_4_A => ⟨"BIT 4,A", 2, some 8, none⟩
  | .bit_5_B => ⟨"BIT 5,B", 2, some 8, none⟩
  | .bit_5_C => ⟨"BIT 5,C", 2, some 8, none⟩
  | .bit_5_D => ⟨"BIT 5,D", 2, some 8, none⟩
  | .bit_5_E => ⟨"BIT 5,E", 2, some 8, none⟩
  | .bit_5_H => ⟨"BIT 5,H", 2, some 8, none⟩
  | .bit_5_L => ⟨"BIT 5,L", 2, some 8, none⟩
  | .bit_5_atHL => ⟨"BIT 5,(HL)", 2, some 12, none⟩
  | .bit_5_A => ⟨"BIT 5,A", 2, some 8, none⟩
  | .bit_6_B => ⟨"BIT 6,B", 2, some 8, none⟩
  | .bit_6_C => ⟨"BIT 6,C", 2, some 8, none⟩
  | .bit_6_D => ⟨"BIT 6,D", 2, some 8, none⟩
  | .bit_6_E => ⟨"BIT 6,E", 2, some 8, none⟩
  | .bit_6_H => ⟨"BIT 6,H", 2, some 8, none⟩
  | .bit_6_L => ⟨"BIT 6,L", 2, some 8, none⟩
  | .bit_6_atHL => ⟨"BIT 6,(HL)", 2, some 12, none⟩
  | .bit_6_A => ⟨"BIT 6,A", 2, some 8, none⟩
  | .bit_7_B => ⟨"BIT 7,B", 2, some 8, none⟩
  | .bit_7_C => ⟨"BIT 7,C", 2, some 8, none⟩
  | .bit_7_D => ⟨"BIT 7,D", 2, some 8, none⟩
  | .bit_7_E => ⟨"BIT 7,E", 2, some 8, none⟩
  | .bit_7_H => ⟨"BIT 7,H", 2, some 8, none⟩
  | .bit_7_L => ⟨"BIT 7,L", 2, some 8, none⟩
  | .bit_7_atHL => ⟨"BIT 7,(HL)", 2, some 12, none⟩
  | .bit_7_A => ⟨"BIT 7,A", 2, some 8, none⟩
  | .res_0_B => ⟨"RES 0,B", 2, some 8, none⟩
  | .res_0_C => ⟨"RES 0,C", 2, some 8, none⟩
  | .res_0_D => ⟨"RES 0,D", 2, some 8, none⟩
  | .res_0_E => ⟨"RES 0,E", 2, some 8, none⟩
  | .res_0_H => ⟨"RES 0,H", 2, some 8, none⟩
  | .res_0_L => ⟨"RES 0,L", 2, some 8, none⟩
  | .res_0_atHL => ⟨"RES 0,(HL)", 2, some 16, none⟩
  | .res_0_A => ⟨"RES 0,A", 2, some 8, none⟩
  | .res_1_B => ⟨"RES 1,B", 2, some 8, none⟩
  | .res_1_C => ⟨"RES 1,C", 2, some 8, none⟩
  | .res_1_D => ⟨"RES 1,D", 2, some 8, none⟩
  | .res_1_E => ⟨"RES 1,E", 2, some 8, none⟩
  | .res_1_H => ⟨"RES 1,H", 2, some 8, none⟩
  | .res_1_L => ⟨"RES 1,L", 2, some 8, none⟩
  | .res_1_atHL => ⟨"RES 1,(HL)", 2, some 16, none⟩
  | .res_1_A => ⟨"RES 1,A", 2, some 8, none⟩
  | .res_2_B => ⟨"RES 2,B", 2, some 8, none⟩
  | .res_2_C => ⟨"RES 2,C", 2, some 8, none⟩
  | .res_2_D => ⟨"RES 2,D", 2, some 8, none⟩
  | .res_2_E => ⟨"RES 2,E", 2, some 8, none⟩
  | .res_2_H => ⟨"RES 2,H", 2, some 8, none⟩
  | .res_2_L => ⟨"RES 2,L", 2, some 8, none⟩
  | .res_2_atHL => ⟨"RES 2,(HL)", 2, some 16, none⟩
  | .res_2_A => ⟨"RES 2,A", 2, some 8, none⟩
  | .res_3_B => ⟨"RES 3,B", 2, some 8, none⟩
  | .res_3_C => ⟨"RES 3,C", 2, some 8, none⟩
  | .res_3_D => ⟨"RES 3,D", 2, some 8, none⟩
  | .res_3_E => ⟨"RES 3,E", 2, some 8, none⟩
  | .res_3_H => ⟨"RES 3,H", 2, some 8, none⟩
  | .res_3_L => ⟨"RES 3,L", 2, some 8, none⟩
  | .res_3_atHL => ⟨"RES 3,(HL)", 2, some 16, none⟩
  | .res_3_A => ⟨"RES 3,A", 2, some 8, none⟩
  | .res_4_B => ⟨"RES 4,B", 2, some 8, none⟩
  | .res_4_C => ⟨"RES 4,C", 2, some 8, none⟩
  | .res_4_D => ⟨"RES 4,D", 2, some 8, none⟩
  | .res_4_E => ⟨"RES 4,E", 2, some 8, none⟩
  | .res_4_H => ⟨"RES 4,H", 2, some 8, none⟩
  | .res_4_L => ⟨"RES 4,L", 2, some 8, none⟩
  | .res_4_atHL => ⟨"RES 4,(HL)", 2, some 16, none⟩
  | .res_4_A => ⟨"RES 4,A", 2, some 8, none⟩
  | .res_5_B => ⟨"RES 5,B", 2, some 8, none⟩
  | .res_5_C => ⟨"RES 5,C", 2, some 8, none⟩
  | .res_5_D => ⟨"RES 5,D", 2, some 8, none⟩
  | .res_5_E => ⟨"RES 5,E", 2, some 8, none⟩
  | .res_5_H => ⟨"RES 5,H", 2, some 8, none⟩
  | .res_5_L => ⟨"RES 5,L", 2, some 8, none⟩
  | .res_5_atHL => ⟨"RES 5,(HL)", 2, some 16, none⟩
  | .res_5_A => ⟨"RES 5,A", 2, some 8, none⟩
  | .res_6_B => ⟨"RES 6,B", 2, some 8, none⟩
  | .res_6_C => ⟨"RES 6,C", 2, some 8, none⟩
  | .res_6_D => ⟨"RES 6,D", 2, some 8, none⟩
  | .res_6_E => ⟨"RES 6,E", 2, some 8, none⟩
  | .res_6_H => ⟨"RES 6,H", 2, some 8, none⟩
  | .res_6_L => ⟨"RES 6,L", 2, some 8, none⟩
  | .res_6_atHL => ⟨"RES 6,(HL)", 2, some 16, none⟩
  | .res_6_A => ⟨"RES 6,A", 2, some 8, none⟩
  | .res_7_B => ⟨"RES 7,B", 2, some 8, none⟩
  | .res_7_C => ⟨"RES 7,C", 2, some 8, none⟩
  | .res_7_D => ⟨"RES 7,D", 2, some 8, none⟩
  | .res_7_E => ⟨"RES 7,E", 2, some 8, none⟩
  | .res_7_H => ⟨"RES 7,H", 2, some 8, none⟩
  | .res_7_L => ⟨"RES 7,L", 2, some 8, none⟩
  | .res_7_atHL => ⟨"RES 7,(HL)", 2, some 16, none⟩
  | .res_7_A => ⟨"RES 7,A", 2, some 8, none⟩
  | .set_0_B => ⟨"SET 0,B", 2, some 8, none⟩
  | .set_0_C => ⟨"SET 0,C", 2, some 8, none⟩
  | .set_0_D => ⟨"SET 0,D", 2, some 8, none⟩
  | .set_0_E => ⟨"SET 0,E", 2, some 8, none⟩
  | .set_0_H => ⟨"SET 0,H", 2, some 8, none⟩
  | .set_0_L => ⟨"SET 0,L", 2, some 8, none⟩
  | .set_0_atHL => ⟨"SET 0,(HL)", 2, some 16, none⟩
  | .set_0_A => ⟨"SET 0,A", 2, some 8, none⟩
  | .set_1_B => ⟨"SET 1,B", 2, some 8, none⟩
  | .set_1_C => ⟨"SET 1,C", 2, some 8, none⟩
  | .set_1_D => ⟨"SET 1,D", 2, some 8, none⟩
  | .set_1_E => ⟨"SET 1,E", 2, some 8, none⟩
  | .set_1_H => ⟨"SET 1,H", 2, some 8, none⟩
  | .set_1_L => ⟨"SET 1,L", 2, some 8, none⟩
  | .set_1_atHL => ⟨"SET 1,(HL)", 2, some 16, none⟩
  | .set_1_A => ⟨"SET 1,A", 2, some 8, none⟩
  | .set_2_B => ⟨"SET 2,B", 2, some 8, none⟩
  | .set_2_C => ⟨"SET 2,C", 2, some 8, none⟩
  | .set_2_D => ⟨"SET 2,D", 2, some 8, none⟩
  | .set_2_E => ⟨"SET 2,E", 2, some 8, none⟩
  | .set_2_H => ⟨"SET 2,H", 2, some 8, none⟩
  | .set_2_L => ⟨"SET 2,L", 2, some 8, none⟩
  | .set_2_atHL => ⟨"SET 2,(HL)", 2, some 16, none⟩
  | .set_2_A => ⟨"SET 2,A", 2, some 8, none⟩
  | .set_3_B => ⟨"SET 3,B", 2, some 8, none⟩
  | .set_3_C => ⟨"SET 3,C", 2, some 8, none⟩
  | .set_3_D => ⟨"SET 3,D", 2, some 8, none⟩
  | .set_3_E => ⟨"SET 3,E", 2, some 8, none⟩
  | .set_3_H => ⟨"SET 3,H", 2, some 8, none⟩
  | .set_3_L => ⟨"SET 3,L", 2, some 8, none⟩
  | .set_3_atHL => ⟨"SET 3,(HL)", 2, some 16, none⟩
  | .set_3_A => ⟨"SET 3,A", 2, some 8, none⟩
  | .set_4_B => ⟨"SET 4,B", 2, some 8, none⟩
  | .set_4_C => ⟨"SET 4,C", 2, some 8, none⟩
  | .set_4_D => ⟨"SET 4,D", 2, some 8, none⟩
  | .set_4_E => ⟨"SET 4,E", 2, some 8, none⟩
  | .set_4_H => ⟨"SET 4,H", 2, some 8, none⟩
  | .set_4_L => ⟨"SET 4,L", 2, some 8, none⟩
  | .set_4_atHL => ⟨"SET 4,(HL)", 2, some 16, none⟩
  | .set_4_A => ⟨"SET 4,A", 2, some 8, none⟩
  | .set_5_B => ⟨"SET 5,B", 2, some 8, none⟩
  | .set_5_C => ⟨"SET 5,C", 2, some 8, none⟩
  | .set_5_D => ⟨"SET 5,D", 2, some 8, none⟩
  | .set_5_E => ⟨"SET 5,E", 2, some 8, none⟩
  | .set_5_H => ⟨"SET 5,H", 2, some 8, none⟩
  | .set_5_L => ⟨"SET 5,L", 2, some 8, none⟩
  | .set_5_atHL => ⟨"SET 5,(HL)", 2, some 16, none⟩
  | .set_5_A => ⟨"SET 5,A", 2, some 8, none⟩
  | .set_6_B => ⟨"SET 6,B", 2, some 8, none⟩
  | .set_6_C => ⟨"SET 6,C", 2, some 8, none⟩
  | .set_6_D => ⟨"SET 6,D", 2, some 8, none⟩
  | .set_6_E => ⟨"SET 6,E", 2, some 8, none⟩
  | .set_6_H => ⟨"SET 6,H", 2, some 8, none⟩
  | .set_6_L => ⟨"SET 6,L", 2, some 8, none⟩
  | .set_6_atHL => ⟨"SET 6,(HL)", 2, some 16, none⟩
  | .set_6_A => ⟨"SET 6,A", 2, some 8, none⟩
  | .set_7_B => ⟨"SET 7,B", 2, some 8, none⟩
  | .set_7_C => ⟨"SET 7,C", 2, some 8, none⟩
  | .set_7_D => ⟨"SET 7,D", 2, some 8, none⟩
  | .set_7_E => ⟨"SET 7,E", 2, some 8, none⟩
  | .set_7_H => ⟨"SET 7,H", 2, some 8, none⟩
  | .set_7_L => ⟨"SET 7,L", 2, some 8, none⟩
  | .set_7_atHL => ⟨"SET 7,(HL)", 2, some 16, none⟩
  | .set_7_A => ⟨"SET 7,A", 2, some 8, none⟩

/-- The T-cycles a descriptor gives under the flags before the instruction: the base cost, or the
not-taken cost when the condition fails (R179, R360, R475). -/
def costOf (d : Descriptor) (fl : Flags) : Option Nat :=
  match d.branch with
  | none => d.cycles
  | some (k, notTaken) => if condHolds k fl then d.cycles else some notTaken

end Sys2Proof.Machine
end

