-- ==== Sys2Proof/Machine/Construct.lean ====
section
/-!
DEFINITION. `Construct(CART_IMAGE, BOOT_IMAGE)`, the only reset of the machine (R460): the load-time
errors (R98, R410, R412), the boot buffer (R462), the cartridge (R468, R469) and the registers (R463–R465).
-/

namespace Sys2Proof.Machine

/-- The load-time errors (R410). A load error is no state of a machine (R412). -/
inductive LoadError where
  | tooShort
  | unknownType (t : Byte)
  | badRomSize (code : Byte)
  | badRamSize (code : Byte)
  | badBootSize (size : Nat)
deriving DecidableEq, Repr

/-- Cartridge RAM at reset: `CART_RAM_INIT`, its first 512 bytes masked to four bits in an MBC2, and
nothing without a mapper (R112, R125, R469). -/
def initialRam (m : Mapper) (ramSize : Nat) (init : List Byte) : Memory :=
  match m with
  | .noMapper => []
  | .mbc2 _ => Memory.ofBytes 0x00 0 ((init.take Config.ram2Size).map (· &&& 0x0F))
  | _ => Memory.ofBytes 0x00 0 (init.take ramSize)

/-- Check the cartridge image and build its mapper variant (R98 (a)–(d), R99, R460 step 1). -/
def buildCartridge (p : Config.Params) (image : List Byte) : Except LoadError Cartridge :=
  if image.length < 0x0150 then .error .tooShort
  else
    let h := headerOf image
    if h.cartType ∉ p.recognizedTypes then .error (.unknownType h.cartType)
    else
      match mapperOfType h.cartType, romBanksOfCode h.romSizeCode, ramSizeOfCode h.ramSizeCode with
      | none, _, _ => .error (.unknownType h.cartType)
      | some _, none, _ => .error (.badRomSize h.romSizeCode)
      | some _, some _, none => .error (.badRamSize h.ramSizeCode)
      | some m, some banks, some ramSize =>
        .ok
          { rom := Memory.ofBytes 0x00 0 image
            romLen := image.length
            romBanks := banks
            ramSize := ramSize
            ram := initialRam m ramSize p.cartRamInit
            mapper := m }

/-- The boot buffer: the first 256 bytes of the image, padded with 0x00; under strict validation an image
of another size than 256 or 2304 bytes is refused (R462, R460 step 2). -/
def buildBoot (p : Config.Params) (boot : Option (List Byte)) : Except LoadError Memory :=
  match boot with
  | none => .ok []
  | some image =>
    if p.strictBootValidation && image.length != 256 && image.length != 2304 then
      .error (.badBootSize image.length)
    else .ok (Memory.ofBytes 0x00 0 (image.take Config.bootSize))

/-- The registers with a boot image: the draw `REG_INIT` with F masked, and PC at 0x0000 (R463, R464). -/
def bootRegisters (r : Config.RegInit) : RegisterFile where
  a := r.a
  f := r.f &&& 0xF0
  b := r.b
  c := r.c
  d := r.d
  e := r.e
  h := r.h
  l := r.l
  sp := r.sp
  pc := 0x0000

/-- `Construct(CART_IMAGE, BOOT_IMAGE)` (R460). -/
def construct (p : Config.Params) (image : List Byte) (boot : Option (List Byte)) :
    Except LoadError State :=
  match buildCartridge p image with
  | .error e => .error e
  | .ok cart =>
    match buildBoot p boot with
    | .error e => .error e
    | .ok buffer =>
      .ok
        { State.reset with
          regs := if boot.isSome then bootRegisters p.regInit else RegisterFile.reset
          bus := { Bus.reset with boot := buffer, bootMapped := boot.isSome }
          cart := cart }

end Sys2Proof.Machine
end

