-- ==== Sys2Proof/Machine/HostOps.lean ====
section
/-!
DEFINITION. What the host does to the core between two steps (R431): interrupt requests (R416) and the
trace it observes (R429). `Construct` is in Machine/Construct.lean, `Peek` in Machine/Ops.lean.
-/

namespace Sys2Proof.Machine

/-- The host's `Request(k)`, between steps (R416). -/
def State.request (s : State) (k : IrqSource) : State := { s with irq := s.irq.request k }

/-- Any subset of the five request bits becomes 1 before a step (R416). -/
def State.requestAll (s : State) (sources : BitVec 5) : State :=
  { s with irq := { s.irq with ifr := s.irq.ifr ||| sources } }

/-- A trace record: the step's result and the state (R6, R429). -/
structure TraceRecord where
  result : Option StepResult
  state : State
deriving DecidableEq, Repr

/-- The observation after a step: it changes nothing (R429). -/
def State.observe (s : State) : TraceRecord := { result := s.report, state := s }

/-- A session: before each step the host requests the given sources (R416, R431, R432). -/
def session : List (BitVec 5) → State → Result
  | [], s => .next s
  | req :: reqs, s =>
    match step (s.requestAll req) with
    | .next t => session reqs t
    | .fault f => .fault f
    | .refused r => .refused r

end Sys2Proof.Machine
end

