-- ==== Sys2Proof/Safety.lean ====
section
/-!
DEFINITION. What claims call a good state and a reachable one: the invariant of the spec's own words
(F's low nibble R21, the array sizes R35 and R102, the mapper registers that are never zero R118, R126,
R133, the four-bit cells R125, HALTED implies no pending enable R392, a fault is what the last step
reported R411) together with the canonical form of every memory; and the states of a session.
-/

namespace Sys2Proof.Machine

/-- The arrays of the bus are in canonical form and within their sizes (R35). -/
def Bus.wf (b : Bus) : Bool :=
  Memory.wf 0x00 b.vram && Memory.within Config.vramSize b.vram &&
  Memory.wf 0x00 b.wram && Memory.within Config.wramSize b.wram &&
  Memory.wf 0x00 b.oam && Memory.within Config.oamSize b.oam &&
  Memory.wf 0x00 b.hram && Memory.within Config.hramSize b.hram &&
  Memory.wf 0x00 b.boot && Memory.within Config.bootSize b.boot

/-- The mapper registers that select a ROM bank are never zero where the spec says so (R116, R126, R133). -/
def Mapper.wf (m : Mapper) : Bool :=
  match m with
  | .noMapper => true
  | .mbc1 r => r.bank1 != 0
  | .mbc2 r => r.romb != 0
  | .mbc3 _ r => r.romb != 0
  | .mbc5 _ _ => true

/-- The cartridge RAM array is within its size: CRAM's (R102), or 512 four-bit cells (R125). -/
def Cartridge.ramWf (c : Cartridge) : Bool :=
  match c.mapper with
  | .mbc2 _ => Memory.within Config.ram2Size c.ram && c.ram.all (fun x => x.2.toNat < 16)
  | _ => Memory.within c.ramSize c.ram

/-- The cartridge's arrays are in canonical form and within their sizes, it declares at least two ROM banks
(R95), and its mapper is well-formed. -/
def Cartridge.wf (c : Cartridge) : Bool :=
  Memory.wf 0x00 c.rom && Memory.within c.romLen c.rom && decide (2 ≤ c.romBanks) &&
  Memory.wf 0x00 c.ram && c.ramWf && c.mapper.wf

/-- Every memory of the state is in canonical form and within its size. -/
def State.memWf (s : State) : Bool := s.bus.wf && s.cart.wf

/-- F's low nibble is zero (R21). -/
def State.fLowZero (s : State) : Bool := s.regs.f &&& 0x0F == 0x00

/-- HALTED = 1 implies IME_SCHED = 0 (R392). -/
def State.haltedSettled (s : State) : Bool := !(s.halted && s.imeSched)

/-- FAULT is what the last step reported (R390, R411). -/
def State.faultReported (s : State) : Bool :=
  match s.fault with
  | none => true
  | some f => s.report == some (.stopped f)

/-- The invariant of the machine. -/
def State.Inv (s : State) : Bool := s.memWf && s.fLowZero && s.haltedSettled && s.faultReported

/-- The states of a session: constructed, stepped, or with an interrupt requested between steps
(R416, R431, R460). -/
inductive Reachable : State → Prop where
  | constructed (p : Config.Params) (image : List Byte) (boot : Option (List Byte)) (s : State)
      (h : construct p image boot = .ok s) : Reachable s
  | stepped (s t : State) (hs : Reachable s) (h : step s = .next t) : Reachable t
  | requested (s : State) (hs : Reachable s) (sources : BitVec 5) : Reachable (s.requestAll sources)

/-- A safe step: the machine goes on (R410: the one fault of a running machine is InvalidOpcode). -/
def State.goesOn (s : State) : Prop := ∃ t, step s = .next t

end Sys2Proof.Machine
end

