-- ==== Sys2Proof/WellFormed.lean ====
section
/-!
DEFINITION. Which instruction terms are complete instructions. Operands are typed at their exact widths,
so the one check is that the term is not the escape 0xCB alone (R175).
-/

namespace Sys2Proof

/-- "Opcode 0xCB is an escape, not an instruction" (R175): it is none without its second byte, and with
it the instruction is the entry of the CB catalog. -/
def Instr.isEscape (i : Instr) : Bool := i = .prefixCb

/-- A complete instruction. -/
def WellFormed (i : Instr) : Bool := !i.isEscape

end Sys2Proof
end

