-- ==== Sys2Proof/Certificates/Slice0/Obligations.lean ====
section
/-!
DEFINITION. The statements for the provers, `Obligations.<Name>`, after the vocabulary they are written in. The
vocabulary restates the spec's tables and formulas (the operand tables, the flag byte of R23, a pair as two
concatenated bytes) apart from the model's own definitions; a result is written out as the whole next
state, so that each result statement is also the instruction's frame and its completion.
-/

namespace Sys2Proof.Statements

open Sys2Proof.Machine

/-! ### The operand tables as numbers (R162–R167) -/

/-- The index of a register in table `r` (R162). -/
def rCode : R8 → Byte
  | .b => 0 | .c => 1 | .d => 2 | .e => 3 | .h => 4 | .l => 5 | .a => 7

/-- The index of an operand of table `r`; `(HL)` is 6 (R162). -/
def rmCode : Rm → Byte
  | .reg r => rCode r
  | .atHL => 6

/-- The index in table `rp` (R163). -/
def rpCode : Rp → Byte
  | .bc => 0 | .de => 1 | .hl => 2 | .sp => 3

/-- The index in table `rp2` (R164). -/
def rp2Code : Rp2 → Byte
  | .bc => 0 | .de => 1 | .hl => 2 | .af => 3

/-- The index in table `cc` (R165). -/
def ccCode : Cond → Byte
  | .nz => 0 | .z => 1 | .nc => 2 | .c => 3

/-- The index in table `rot` (R167). -/
def rotCode : RotOp → Byte
  | .rlc => 0 | .rrc => 1 | .rl => 2 | .rr => 3 | .sla => 4 | .sra => 5 | .swap => 6 | .srl => 7

/-- The low byte of a word, the first byte of an immediate (R169). -/
def lo (w : Word) : Byte := BitVec.ofNat 8 (w.toNat % 256)

/-- The high byte of a word (R169). -/
def hi (w : Word) : Byte := BitVec.ofNat 8 (w.toNat / 256)

/-! ### Registers, flags and operands -/

/-- The byte F of four flags, Z in bit 7 down to C in bit 4 (R23). -/
def fByte (z n h c : Bool) : Byte :=
  BitVec.ofBool z ++ BitVec.ofBool n ++ BitVec.ofBool h ++ BitVec.ofBool c ++ (0 : BitVec 4)

/-- ZF, bit 7 of F (R23). -/
def zf (s : State) : Bool := s.regs.f.getLsbD 7
/-- NF, bit 6 of F (R23). -/
def nf (s : State) : Bool := s.regs.f.getLsbD 6
/-- HF, bit 5 of F (R23). -/
def hf (s : State) : Bool := s.regs.f.getLsbD 5
/-- CF, bit 4 of F (R23). -/
def cf (s : State) : Bool := s.regs.f.getLsbD 4

/-- A register of table `r`. -/
def reg (r : R8) (s : State) : Byte :=
  match r with
  | .b => s.regs.b
  | .c => s.regs.c
  | .d => s.regs.d
  | .e => s.regs.e
  | .h => s.regs.h
  | .l => s.regs.l
  | .a => s.regs.a

/-- The state with one register of table `r` replaced. -/
def withReg (r : R8) (v : Byte) (s : State) : State :=
  match r with
  | .b => { s with regs := { s.regs with b := v } }
  | .c => { s with regs := { s.regs with c := v } }
  | .d => { s with regs := { s.regs with d := v } }
  | .e => { s with regs := { s.regs with e := v } }
  | .h => { s with regs := { s.regs with h := v } }
  | .l => { s with regs := { s.regs with l := v } }
  | .a => { s with regs := { s.regs with a := v } }

/-- The state with F replaced. -/
def withF (f : Byte) (s : State) : State := { s with regs := { s.regs with f := f } }

/-- The state with A and F replaced. -/
def withAF (a f : Byte) (s : State) : State := { s with regs := { s.regs with a := a, f := f } }

/-- The state with PC replaced. -/
def withPC (pc : Word) (s : State) : State := { s with regs := { s.regs with pc := pc } }

/-- The state with SP replaced. -/
def withSP (sp : Word) (s : State) : State := { s with regs := { s.regs with sp := sp } }

/-- The state with H and L replaced by the halves of a word (R22). -/
def withHL (v : Word) (s : State) : State := { s with regs := { s.regs with h := hi v, l := lo v } }

/-- HL is `H ++ L` (R22). -/
def hl (s : State) : Word := s.regs.h ++ s.regs.l
/-- BC is `B ++ C` (R22). -/
def bc (s : State) : Word := s.regs.b ++ s.regs.c
/-- DE is `D ++ E` (R22). -/
def de (s : State) : Word := s.regs.d ++ s.regs.e

/-- A pair of table `rp` (R163, R22). -/
def pair (p : Rp) (s : State) : Word :=
  match p with
  | .bc => bc s
  | .de => de s
  | .hl => hl s
  | .sp => s.regs.sp

/-- The state with a pair of table `rp` replaced. -/
def withPair (p : Rp) (v : Word) (s : State) : State :=
  match p with
  | .bc => { s with regs := { s.regs with b := hi v, c := lo v } }
  | .de => { s with regs := { s.regs with d := hi v, e := lo v } }
  | .hl => withHL v s
  | .sp => withSP v s

/-- A pair of table `rp2` (R164, R22). -/
def pair2 (p : Rp2) (s : State) : Word :=
  match p with
  | .bc => bc s
  | .de => de s
  | .hl => hl s
  | .af => s.regs.a ++ s.regs.f

/-- The state with a pair of table `rp2` replaced; F keeps its low nibble zero (R21). -/
def withPair2 (p : Rp2) (v : Word) (s : State) : State :=
  match p with
  | .bc => { s with regs := { s.regs with b := hi v, c := lo v } }
  | .de => { s with regs := { s.regs with d := hi v, e := lo v } }
  | .hl => withHL v s
  | .af => withAF (hi v) (lo v &&& 0xF0) s

/-- The value of an operand of table `r`: the register, or the byte a read at HL gives. -/
def operand (m : Rm) (s : State) : Byte :=
  match m with
  | .reg r => reg r s
  | .atHL => readValue (hl s) s

/-- The state after reading an operand of table `r`. -/
def afterOperand (m : Rm) (s : State) : State :=
  match m with
  | .reg _ => s
  | .atHL => afterRead (hl s) s

/-- The state after writing an operand of table `r`: the register, or a store at HL. -/
def withOperand (m : Rm) (v : Byte) (s : State) : State :=
  match m with
  | .reg r => withReg r v s
  | .atHL => memWrite (hl s) v s

/-- One figure for a register operand, one for `(HL)`. -/
def byForm (m : Rm) (r atHL : Nat) : Nat :=
  match m with
  | .reg _ => r
  | .atHL => atHL

/-- The instruction is complete: its step reports `n` T-cycles (R390). -/
def done (n : Nat) (s : State) : Host.Outcome State Fault Refusal :=
  .next { s with report := some (.ok n) }

/-- The condition of an index of table `cc` (R360). -/
def holds (k : Cond) (s : State) : Prop :=
  match k with
  | .nz => zf s = false
  | .z => zf s = true
  | .nc => cf s = false
  | .c => cf s = true

/-- A displacement byte as the number it stands for, -128 to 127 (R170). -/
def displacement (e : Byte) : Int := if e.toNat < 128 then e.toNat else (e.toNat : Int) - 256

/-! ### The stack (R88, R89) -/

/-- The state after pushing `v`: the high byte is stored at SP - 1, then the low byte at SP - 2. -/
def pushed (v : Word) (s : State) : State :=
  withSP (s.regs.sp - 2) (memWrite (s.regs.sp - 2) (lo v) (memWrite (s.regs.sp - 1) (hi v) s))

/-- The word a pop reads: the low byte at SP, then the high byte at SP + 1. -/
def popped (s : State) : Word :=
  readValue (s.regs.sp + 1) (afterRead s.regs.sp s) ++ readValue s.regs.sp s

/-- The state after a pop. -/
def afterPop (s : State) : State :=
  withSP (s.regs.sp + 2) (afterRead (s.regs.sp + 1) (afterRead s.regs.sp s))

/-! ### The record of accesses (R6) -/

/-- The state with accesses added to the record, the latest first. -/
def recorded (evs : List BusEvent) (s : State) : State :=
  { s with bus := { s.bus with events := evs ++ s.bus.events } }

/-- `t` is `s`, but for the record of accesses. -/
def SameButRecord (s t : State) : Prop := t = { s with bus := { s.bus with events := t.bus.events } }

/-! ### Stores -/

/-- A store at `a` cannot be seen by a read at `x`: they reach no common cell; a store to cartridge ROM
moves banks, so with a mapper it may be seen in the ROM windows and in cartridge RAM; a store to
0xFF50 may be seen below 0x0100. -/
def Apart (a x : Word) (s : State) : Prop :=
  match region a with
  | .rom =>
    s.cart.mapper = .noMapper ∨ (x.toNat < 0x100 ∧ s.bus.bootMapped = true) ∨
      (0x8000 ≤ x.toNat ∧ x.toNat < 0xA000) ∨ 0xC000 ≤ x.toNat
  | .unmapReg => 0x100 ≤ x.toNat
  | _ => x ≠ a ∧ ∀ c, target a s = .cell c → target x s ≠ .cell c

/-- The addresses an instruction stores to, in order. Those that are not named store nothing. -/
def storedAddresses (i : Instr) (s : State) : List Word :=
  match i with
  | .ld_atHL_B | .ld_atHL_C | .ld_atHL_D | .ld_atHL_E | .ld_atHL_H | .ld_atHL_L | .ld_atHL_A
  | .ld_atHL_n _ | .ld_atHLi_A | .ld_atHLd_A | .inc_atHL | .dec_atHL
  | .rlc_atHL | .rrc_atHL | .rl_atHL | .rr_atHL | .sla_atHL | .sra_atHL | .swap_atHL | .srl_atHL
  | .res_0_atHL | .res_1_atHL | .res_2_atHL | .res_3_atHL | .res_4_atHL | .res_5_atHL
  | .res_6_atHL | .res_7_atHL | .set_0_atHL | .set_1_atHL | .set_2_atHL | .set_3_atHL
  | .set_4_atHL | .set_5_atHL | .set_6_atHL | .set_7_atHL => [hl s]
  | .ld_atBC_A => [bc s]
  | .ld_atDE_A => [de s]
  | .ld_atNn_A nn => [nn]
  | .ld_atC_A => [0xFF00 + s.regs.c.setWidth 16]
  | .ldh_atN_A n => [0xFF00 + n.setWidth 16]
  | .ld_atNn_SP nn => [nn, nn + 1]
  | .push_BC | .push_DE | .push_HL | .push_AF
  | .call_nn _ | .rst_00 | .rst_08 | .rst_10 | .rst_18 | .rst_20 | .rst_28 | .rst_30 | .rst_38 =>
    [s.regs.sp - 1, s.regs.sp - 2]
  | .call_NZ_nn _ => if zf s = false then [s.regs.sp - 1, s.regs.sp - 2] else []
  | .call_Z_nn _ => if zf s = true then [s.regs.sp - 1, s.regs.sp - 2] else []
  | .call_NC_nn _ => if cf s = false then [s.regs.sp - 1, s.regs.sp - 2] else []
  | .call_C_nn _ => if cf s = true then [s.regs.sp - 1, s.regs.sp - 2] else []
  | .prefixCb =>
    let op2 := (readValue s.regs.pc s).toNat
    if op2 % 8 = 6 ∧ op2 / 64 ≠ 1 then [hl s] else []
  | _ => []

/-! ### Fetching (R391) -/

/-- The next `n` bytes that fetches at PC give, and the state after fetching them (R11, R27). -/
def fetched : Nat → State → List Byte × State
  | 0, s => ([], s)
  | n + 1, s =>
    let rest := fetched n (withPC (s.regs.pc + 1) (afterRead s.regs.pc s))
    (readValue s.regs.pc s :: rest.1, rest.2)

/-- The step begins Running, with no fault, and dispatches no interrupt (R390, R418). -/
def RunsInstruction (s : State) : Prop :=
  s.fault = none ∧ s.halted = false ∧ (s.ime = false ∨ s.irq.ie.setWidth 5 &&& s.irq.ifr = 0)

/-- The INVALID slots (R176). -/
def invalidSlots : List Byte :=
  [0xD3, 0xDB, 0xDD, 0xE3, 0xE4, 0xEB, 0xEC, 0xED, 0xF4, 0xFC, 0xFD]

/-- The instruction of an INVALID slot. -/
def IsInvalid (i : Instr) : Prop := ∃ op ∈ invalidSlots, encode i = [op]

/-! ### Memory and images -/

/-- Addresses of plain read and write memory on the bus: VRAM, WRAM, echo, OAM, HRAM (R62). -/
def PlainRam (a : Word) : Prop :=
  (0x8000 ≤ a.toNat ∧ a.toNat < 0xA000) ∨ (0xC000 ≤ a.toNat ∧ a.toNat < 0xFEA0) ∨
    (0xFF80 ≤ a.toNat ∧ a.toNat < 0xFFFF)

/-- The byte of an image at an index, 0x00 past its end. -/
def byteAt (image : List Byte) (i : Nat) : Byte := image.getD i 0x00

/-- The state with the mapper registers replaced. -/
def withMapper (m : Mapper) (s : State) : State := { s with cart := { s.cart with mapper := m } }

/-- The ROM byte that bank `bank`, reduced modulo the declared count, shows at an offset; 0xFF past the end of a
short image (R101). -/
def romAt (s : State) (bank off : Nat) : Byte :=
  if bank % s.cart.romBanks * 0x4000 + off < s.cart.romLen then
    Memory.read 0x00 s.cart.rom (bank % s.cart.romBanks * 0x4000 + off)
  else 0xFF

/-- The index of a cartridge RAM byte (R102). -/
def ramAt (s : State) (bank : Nat) (a : Word) : Nat := (bank * 0x2000 + a.toNat % 0x2000) % s.cart.ramSize

/-- The state with one byte of the cartridge RAM array replaced. -/
def withRam (i : Nat) (v : Byte) (s : State) : State :=
  { s with cart := { s.cart with ram := Memory.write 0x00 s.cart.ram i v } }

end Sys2Proof.Statements

open Sys2Proof Sys2Proof.Machine Sys2Proof.Statements

/-- The reset values of R461 and R463–R467, for every construction that succeeds. -/
def Obligations.ConstructGivesResetState : Prop :=
  ∀ (p : Config.Params) (image : List Byte) (boot : Option (List Byte)) (s : State),
    construct p image boot = .ok s →
    (∀ a, PlainRam a → readValue a s = 0x00) ∧
    s.ime = false ∧ s.imeSched = false ∧ s.halted = false ∧ s.fault = none ∧
    s.irq.ie = 0x00 ∧ s.irq.ifr = 0 ∧ pending s = 0 ∧ readValue 0xFF0F s = 0xE0 ∧
    (boot = none →
      s.bus.bootMapped = false ∧
      s.regs = { a := 0x01, f := 0xB0, b := 0x00, c := 0x13, d := 0x00, e := 0xD8, h := 0x01,
                 l := 0x4D, sp := 0xFFFE, pc := 0x0100 }) ∧
    (boot ≠ none →
      s.bus.bootMapped = true ∧
      s.regs = { a := p.regInit.a, f := p.regInit.f &&& 0xF0, b := p.regInit.b, c := p.regInit.c,
                 d := p.regInit.d, e := p.regInit.e, h := p.regInit.h, l := p.regInit.l,
                 sp := p.regInit.sp, pc := 0x0000 })

/-- The boot buffer (R462). -/
def Obligations.BootBufferAtReset : Prop :=
  ∀ (p : Config.Params) (image : List Byte) (cart : Cartridge), buildCartridge p image = .ok cart →
    (∃ s, construct p image none = .ok s ∧ ∀ i, i < 256 → Memory.read 0x00 s.bus.boot i = 0x00) ∧
    (∀ b : List Byte,
      (p.strictBootValidation = false ∨ b.length = 256 ∨ b.length = 2304) →
      ∃ s, construct p image (some b) = .ok s ∧
        ∀ i, i < 256 → Memory.read 0x00 s.bus.boot i = byteAt b i) ∧
    (∀ b : List Byte, p.strictBootValidation = true → b.length ≠ 256 → b.length ≠ 2304 →
      construct p image (some b) = .error (.badBootSize b.length))

/-- The load-time errors (R98, R410, R462) in the order of R460, and success when none applies. That a type
byte which `RECOGNIZED_CART_TYPES` holds and the table of R99 does not is UnknownType is the model's reading
(log entry 12). -/
def Obligations.ConstructFailsExactlyOnLoadErrors : Prop :=
  ∀ (p : Config.Params) (image : List Byte) (boot : Option (List Byte)),
    let t := byteAt image 0x0147
    let known := t ∈ p.recognizedTypes ∧ t ∈ Config.defaultCartTypes
    let romCode := byteAt image 0x0148
    let ramCode := byteAt image 0x0149
    let badBoot := fun b : List Byte =>
      p.strictBootValidation = true ∧ b.length ≠ 256 ∧ b.length ≠ 2304
    (image.length < 0x0150 → construct p image boot = .error .tooShort) ∧
    (0x0150 ≤ image.length → ¬ known → construct p image boot = .error (.unknownType t)) ∧
    (0x0150 ≤ image.length → known → 8 < romCode.toNat →
      construct p image boot = .error (.badRomSize romCode)) ∧
    (0x0150 ≤ image.length → known → romCode.toNat ≤ 8 → 5 < ramCode.toNat →
      construct p image boot = .error (.badRamSize ramCode)) ∧
    (0x0150 ≤ image.length → known → romCode.toNat ≤ 8 → ramCode.toNat ≤ 5 →
      (∀ b, boot = some b → badBoot b →
        construct p image boot = .error (.badBootSize b.length)) ∧
      ((∀ b, boot = some b → ¬ badBoot b) → ∃ s, construct p image boot = .ok s))

/-- State.reset is a construction: that of a blank cartridge, which is the model's choice (log entries 1 and
2), with no boot image. -/
def Obligations.BlankCartridgeGivesReset : Prop :=
  ∀ p : Config.Params, 0x00 ∈ p.recognizedTypes →
    construct p (List.replicate 0x8000 0x00) none = .ok State.reset

/-- The cartridge after a construction (R95, R96, R99, R102, R125, R468, R469). That a short `CART_RAM_INIT`
is padded with 0x00 is the model's choice (log entry 13); that RAM exists as the size code says, whatever
the type byte, is its reading (log entry 16). -/
def Obligations.CartridgeAtReset : Prop :=
  ∀ (p : Config.Params) (image : List Byte) (boot : Option (List Byte)) (s : State),
    construct p image boot = .ok s →
    let t := (byteAt image 0x0147).toNat
    let ramCode := (byteAt image 0x0149).toNat
    s.cart.mapper =
      (if t = 0 then .noMapper
       else if t ≤ 0x03 then .mbc1 { ramg := false, bank1 := 1, bank2 := 0, mode := false }
       else if t ≤ 0x06 then .mbc2 { ramg := false, romb := 1 }
       else if t ≤ 0x13 then .mbc3 (decide (t ≤ 0x10)) { ramg := false, romb := 1, sel := 0 }
       else .mbc5 (decide (0x1C ≤ t)) { ramg := false, romb := 1, ramb := 0 }) ∧
    s.cart.romBanks = 2 <<< (byteAt image 0x0148).toNat ∧
    ramCode < 6 ∧ s.cart.ramSize = [0, 2048, 8192, 32768, 131072, 65536].getD ramCode 0 ∧
    (∀ a : Word, 0xA000 ≤ a.toNat → a.toNat < 0xC000 → readValue a s = 0xFF) ∧
    (∀ a : Word, 0x4000 ≤ a.toNat → a.toNat < 0x8000 →
      readValue a s = if a.toNat < image.length then byteAt image a.toNat else 0xFF) ∧
    (0x07 ≤ t ∨ (0x01 ≤ t ∧ t ≤ 0x03) →
      ∀ i, i < s.cart.ramSize → Memory.read 0x00 s.cart.ram i = byteAt p.cartRamInit i) ∧
    (t = 0x05 ∨ t = 0x06 →
      ∀ i, i < 512 → Memory.read 0x00 s.cart.ram i = byteAt p.cartRamInit i &&& 0x0F)

/-- The header checksum (R97), in closed form; informational only. -/
def Obligations.HeaderChecksum : Prop :=
  ∀ image : List Byte, 0x0150 ≤ image.length →
    (isHeaderChecksumValid image = true ↔
      (((List.range 25).map fun i => (byteAt image (0x0134 + i)).toNat).sum + 25 +
        (byteAt image 0x014D).toNat) % 256 = 0) ∧
    (∀ (k : Nat) (b : Byte), 0x0134 ≤ k → k ≤ 0x014C → b ≠ byteAt image k →
      isHeaderChecksumValid image = true → isHeaderChecksumValid (image.set k b) = false) ∧
    (∀ (p : Config.Params) (boot : Option (List Byte)) (b : Byte),
      (∃ s, construct p image boot = .ok s) ↔ ∃ s, construct p (image.set 0x014D b) boot = .ok s)

/-- The aliasing of the pair views (R22). -/
def Obligations.PairViewsAlias : Prop :=
  ∀ (r : RegisterFile) (v : Word) (x : Byte),
    r.get16 .af = r.a ++ r.f ∧ r.get16 .bc = r.b ++ r.c ∧
    r.get16 .de = r.d ++ r.e ∧ r.get16 .hl = r.h ++ r.l ∧
    r.set16 .af v = { r with a := hi v, f := lo v &&& 0xF0 } ∧
    r.set16 .bc v = { r with b := hi v, c := lo v } ∧
    r.set16 .de v = { r with d := hi v, e := lo v } ∧
    r.set16 .hl v = { r with h := hi v, l := lo v } ∧
    (r.set8 .a x).get16 .af = x ++ r.f ∧ (r.set8 .f x).get16 .af = r.a ++ (x &&& 0xF0) ∧
    (r.set8 .b x).get16 .bc = x ++ r.c ∧ (r.set8 .c x).get16 .bc = r.b ++ x ∧
    (r.set8 .d x).get16 .de = x ++ r.e ∧ (r.set8 .e x).get16 .de = r.d ++ x ∧
    (r.set8 .h x).get16 .hl = x ++ r.l ∧ (r.set8 .l x).get16 .hl = r.h ++ x

/-- F and its flags (R21, R23). -/
def Obligations.FlagsOfF : Prop :=
  ∀ (r : RegisterFile) (v : Byte) (w : Word) (fl : Flags) (x y : FlagName) (b : Bool) (n : Reg8)
    (p : Reg16),
    (r.set8 .f v).f = v &&& 0xF0 ∧
    (r.set8 .f v).getFlag .z = v.getLsbD 7 ∧ (r.set8 .f v).getFlag .n = v.getLsbD 6 ∧
    (r.set8 .f v).getFlag .h = v.getLsbD 5 ∧ (r.set8 .f v).getFlag .c = v.getLsbD 4 ∧
    r.setFlags fl = { r with f := fByte fl.z fl.n fl.h fl.c } ∧
    (r.setFlag x b).getFlag y = (if y = x then b else r.getFlag y) ∧
    { r.setFlag x b with f := r.f } = r ∧ (r.setFlag x b).f &&& 0x0F = 0x00 ∧
    (r.f &&& 0x0F = 0x00 → (r.set8 n v).f &&& 0x0F = 0x00 ∧ (r.set16 p w).f &&& 0x0F = 0x00)

/-- The RAM regions of the bus (R66, R68, R69, R70, R75). The canonical form is an invariant of the model
(statements StepKeepsInvariant and ResetMeetsInvariant). -/
def Obligations.PlainRamAccess : Prop :=
  ∀ (a : Word) (v : Byte) (s : State),
    (0x8000 ≤ a.toNat → a.toNat < 0xA000 →
      memRead a s = (Memory.read 0x00 s.bus.vram (a.toNat - 0x8000), s) ∧
      memWrite a v s =
        { s with bus := { s.bus with vram := Memory.write 0x00 s.bus.vram (a.toNat - 0x8000) v } }) ∧
    (0xC000 ≤ a.toNat → a.toNat < 0xE000 →
      memRead a s = (Memory.read 0x00 s.bus.wram (a.toNat - 0xC000), s) ∧
      memWrite a v s =
        { s with bus := { s.bus with wram := Memory.write 0x00 s.bus.wram (a.toNat - 0xC000) v } }) ∧
    (0xE000 ≤ a.toNat → a.toNat < 0xFE00 →
      memRead a s = (Memory.read 0x00 s.bus.wram (a.toNat - 0xE000), s) ∧
      memWrite a v s =
        { s with bus := { s.bus with wram := Memory.write 0x00 s.bus.wram (a.toNat - 0xE000) v } }) ∧
    (0xFE00 ≤ a.toNat → a.toNat < 0xFEA0 →
      memRead a s = (Memory.read 0x00 s.bus.oam (a.toNat - 0xFE00), s) ∧
      memWrite a v s =
        { s with bus := { s.bus with oam := Memory.write 0x00 s.bus.oam (a.toNat - 0xFE00) v } }) ∧
    (0xFF80 ≤ a.toNat → a.toNat < 0xFFFF →
      memRead a s = (Memory.read 0x00 s.bus.hram (a.toNat - 0xFF80), s) ∧
      memWrite a v s =
        { s with bus := { s.bus with hram := Memory.write 0x00 s.bus.hram (a.toNat - 0xFF80) v } }) ∧
    (s.memWf = true → PlainRam a → readValue a (memWrite a v s) = v) ∧
    (s.memWf = true → 0xC000 ≤ a.toNat → a.toNat < 0xDE00 →
      readValue (a + 0x2000) (memWrite a v s) = v ∧ readValue a (memWrite (a + 0x2000) v s) = v)

/-- The ranges of the memory map (R61, R62). -/
def Obligations.AddressMapIsTotal : Prop :=
  ∀ a : Word,
    (region a = .lowRom ↔ a.toNat ≤ 0x00FF) ∧
    (region a = .rom ↔ 0x0100 ≤ a.toNat ∧ a.toNat ≤ 0x7FFF) ∧
    (region a = .vram ↔ 0x8000 ≤ a.toNat ∧ a.toNat ≤ 0x9FFF) ∧
    (region a = .cartRam ↔ 0xA000 ≤ a.toNat ∧ a.toNat ≤ 0xBFFF) ∧
    (region a = .wram ↔ 0xC000 ≤ a.toNat ∧ a.toNat ≤ 0xDFFF) ∧
    (region a = .echo ↔ 0xE000 ≤ a.toNat ∧ a.toNat ≤ 0xFDFF) ∧
    (region a = .oam ↔ 0xFE00 ≤ a.toNat ∧ a.toNat ≤ 0xFE9F) ∧
    (region a = .unusable ↔ 0xFEA0 ≤ a.toNat ∧ a.toNat ≤ 0xFEFF) ∧
    (region a = .ifReg ↔ a = 0xFF0F) ∧ (region a = .unmapReg ↔ a = 0xFF50) ∧
    (region a = .io ↔
      0xFF00 ≤ a.toNat ∧ a.toNat ≤ 0xFF7F ∧ a ≠ 0xFF0F ∧ a ≠ 0xFF50) ∧
    (region a = .hram ↔ 0xFF80 ≤ a.toNat ∧ a.toNat ≤ 0xFFFE) ∧
    (region a = .ieReg ↔ a = 0xFFFF)

/-- The frame of one store, through the read of one byte, `busValue`: `io` and `clock` are the bytes the
environment gives, the same before and after. -/
def Obligations.StoreLeavesOtherAddresses : Prop :=
  ∀ (io clock : Byte) (a x : Word) (v : Byte) (s : State),
    Apart a x s → busValue io clock x (memWrite a v s) = busValue io clock x s

/-- The memory frame of every instruction (the stored addresses of R203, R204, R207, R208, R210, R212, R214,
R216, R218, R220, R222, R278, R280, R326–R346, R366, R367, R371), through the read of one byte, `busValue`:
`io` and `clock` are the bytes the environment gives, the same before and after. -/
def Obligations.InstructionLeavesOtherAddresses : Prop :=
  ∀ (io clock : Byte) (i : Instr) (s t : State) (x : Word), exec i s = .next t →
    (∀ a ∈ storedAddresses i s, Apart a x s) →
      busValue io clock x t = busValue io clock x s

/-- Stores that no memory keeps (R64, R65, R71, R111). -/
def Obligations.RomAndUnusableStores : Prop :=
  ∀ (a : Word) (v : Byte) (s : State),
    (a.toNat < 0x0100 → memWrite a v s = s) ∧
    (0xFEA0 ≤ a.toNat → a.toNat < 0xFF00 →
      memWrite a v s = s ∧ memRead a s = (Config.unusableSentinel, s)) ∧
    (0x0100 ≤ a.toNat → a.toNat < 0x8000 →
      memRead a s = (s.cart.readRom a, s) ∧
      (∃ (m : Mapper) (ev : List BusEvent),
        memWrite a v s =
          { s with cart := { s.cart with mapper := m }, bus := { s.bus with events := ev } }) ∧
      (s.cart.mapper = .noMapper → memWrite a v s = s))

/-- The interrupt controller and its two addresses (R73, R76, R413–R415). What an access to 0xFF0F records
(R6) is said in IoAccessesAreRecorded. -/
def Obligations.InterruptRegisters : Prop :=
  ∀ (s : State) (v : Byte) (c : InterruptController) (k : IrqSource) (j : Nat),
    (memRead 0xFF0F s).1 = 0xE0 ||| s.irq.ifr.setWidth 8 ∧ SameButRecord s (memRead 0xFF0F s).2 ∧
    SameButRecord { s with irq := { s.irq with ifr := BitVec.ofNat 5 v.toNat } } (memWrite 0xFF0F v s) ∧
    memRead 0xFFFF s = (s.irq.ie, s) ∧
    memWrite 0xFFFF v s = { s with irq := { s.irq with ie := v } } ∧
    [IrqSource.vblank, .lcdStat, .timer, .serial, .joypad].map IrqSource.index = [0, 1, 2, 3, 4] ∧
    k.vector.toNat = 0x0040 + 8 * k.index ∧
    (c.enable k).ifr = c.ifr ∧ (c.enable k).ie.getLsbD j = (decide (j = k.index) || c.ie.getLsbD j) ∧
    (c.disable k).ifr = c.ifr ∧
    (c.disable k).ie.getLsbD j = (decide (j ≠ k.index) && c.ie.getLsbD j) ∧
    (c.request k).ie = c.ie ∧
    (c.request k).ifr.getLsbD j = (decide (j = k.index) || c.ifr.getLsbD j) ∧
    (c.acknowledge k).ie = c.ie ∧
    (c.acknowledge k).ifr.getLsbD j = (decide (j ≠ k.index) && c.ifr.getLsbD j) ∧
    c.isEnabled k = c.ie.getLsbD k.index ∧ c.isRequested k = c.ifr.getLsbD k.index ∧
    (pending s).getLsbD j = (s.irq.ie.getLsbD j && s.irq.ifr.getLsbD j)

/-- The boot overlay and its unmap register (R63, R74). What an access to 0xFF50 records (R6) is said in
IoAccessesAreRecorded. -/
def Obligations.BootRomUnmap : Prop :=
  ∀ (a : Word) (v : Byte) (s : State),
    (a.toNat < 0x0100 → s.bus.bootMapped = true →
      memRead a s = (Memory.read 0x00 s.bus.boot a.toNat, s)) ∧
    (a.toNat < 0x0100 → s.bus.bootMapped = false → memRead a s = (s.cart.readRom a, s)) ∧
    (memRead 0xFF50 s).1 = 0xFF ∧ SameButRecord s (memRead 0xFF50 s).2 ∧
    SameButRecord s (memWrite 0xFF50 0x00 s) ∧
    (v ≠ 0x00 →
      SameButRecord { s with bus := { s.bus with bootMapped := false } } (memWrite 0xFF50 v s)) ∧
    ((memWrite a v s).bus.bootMapped = true → s.bus.bootMapped = true)

/-- The sequence of accesses of R6, with the I/O stub (R72) and the external clock (R133, R136, R137); every
other read has no side effect (R82). That the record is one list, newest first, which the free values take
as the history, is the model's choice (log entries 6 and 7), and so is which accesses it holds (log entry
19). -/
def Obligations.IoAccessesAreRecorded : Prop :=
  ∀ (a : Word) (v : Byte) (s : State),
    (0xFF00 ≤ a.toNat → a.toNat < 0xFF80 → a ≠ 0xFF0F → a ≠ 0xFF50 →
      memRead a s =
        (Config.ioRead a s.bus.events, recorded [.ioRd a (Config.ioRead a s.bus.events)] s) ∧
      memWrite a v s = recorded [.ioWr a v] s) ∧
    (a = 0xFF0F ∨ a = 0xFF50 →
      (memRead a s).2 = recorded [.regRd a (memRead a s).1] s ∧
      (memWrite a v s).bus.events = .regWr a v :: s.bus.events) ∧
    (0x0100 ≤ a.toNat → a.toNat < 0x8000 →
      (memWrite a v s).bus.events =
        (match s.cart.mapper with
          | .noMapper => []
          | .mbc1 _ => [.mapperWr a v]
          | .mbc2 _ => if a.toNat < 0x4000 then [.mapperWr a v] else []
          | .mbc3 _ _ => if a.toNat < 0x6000 then [.mapperWr a v] else [.rtcLatch v]
          | .mbc5 _ _ => if a.toNat < 0x6000 then [.mapperWr a v] else []) ++ s.bus.events) ∧
    (∀ sel, target a s = .clock sel →
      memRead a s =
        (Config.rtcRead sel s.bus.events, recorded [.rtcRd sel (Config.rtcRead sel s.bus.events)] s) ∧
      memWrite a v s = recorded [.rtcWrite sel v] s) ∧
    (a.toNat < 0xFF00 ∨ 0xFF80 ≤ a.toNat → (∀ sel, target a s ≠ .clock sel) →
      memRead a s = ((memRead a s).1, s) ∧
      (a.toNat < 0x0100 ∨ 0x8000 ≤ a.toNat → (memWrite a v s).bus.events = s.bus.events))

/-- Peek (R77): what a read would give; `u` stands for the unspecified value. And what a read itself changes
(R6, R82). -/
def Obligations.PeekGivesWhatAReadGives : Prop :=
  ∀ (u : Byte) (a : Word) (s : State),
    ((0xFF00 ≤ a.toNat ∧ a.toNat < 0xFF80 ∧ a ≠ 0xFF0F ∧ a ≠ 0xFF50) → peek u a s = u) ∧
    (¬ (0xFF00 ≤ a.toNat ∧ a.toNat < 0xFF80 ∧ a ≠ 0xFF0F ∧ a ≠ 0xFF50) →
      peek u a s = (memRead a s).1 ∧ SameButRecord s (memRead a s).2) ∧
    (a.toNat < 0xFF00 ∨ 0xFF80 ≤ a.toNat → (∀ sel, target a s ≠ .clock sel) →
      memRead a s = (peek u a s, s))

/-- NoMapper (R110, R111, R113). At least two banks are declared in every state of the invariant (R95). -/
def Obligations.NoMapperCartridge : Prop :=
  ∀ (a : Word) (v : Byte) (s : State), s.cart.mapper = .noMapper → 2 ≤ s.cart.romBanks →
    (a.toNat < 0x8000 →
      s.cart.readRom a =
        if a.toNat < s.cart.romLen then Memory.read 0x00 s.cart.rom a.toNat else 0xFF) ∧
    (0x0100 ≤ a.toNat → a.toNat < 0x8000 → memWrite a v s = s) ∧
    (0xA000 ≤ a.toNat → a.toNat < 0xC000 → memRead a s = (0xFF, s) ∧ memWrite a v s = s)

/-- MBC1 (R116–R118, R122, R123). BANK1 is not 0 in every state of the invariant. -/
def Obligations.Mbc1Cartridge : Prop :=
  ∀ (a : Word) (v : Byte) (r : Mbc1) (s : State), s.cart.mapper = .mbc1 r →
    (0x0100 ≤ a.toNat → a.toNat < 0x2000 →
      SameButRecord (withMapper (.mbc1 { r with ramg := decide (v.toNat % 16 = 0x0A) }) s)
        (memWrite a v s)) ∧
    (0x2000 ≤ a.toNat → a.toNat < 0x4000 →
      SameButRecord (withMapper (.mbc1 { r with
          bank1 := if v.toNat % 32 = 0 then 1 else BitVec.ofNat 5 v.toNat }) s)
        (memWrite a v s)) ∧
    (0x4000 ≤ a.toNat → a.toNat < 0x6000 →
      SameButRecord (withMapper (.mbc1 { r with bank2 := BitVec.ofNat 2 v.toNat }) s)
        (memWrite a v s)) ∧
    (0x6000 ≤ a.toNat → a.toNat < 0x8000 →
      SameButRecord (withMapper (.mbc1 { r with mode := decide (v.toNat % 2 = 1) }) s)
        (memWrite a v s)) ∧
    (a.toNat < 0x4000 →
      s.cart.readRom a = romAt s (if r.mode then 32 * r.bank2.toNat else 0) a.toNat) ∧
    (0x4000 ≤ a.toNat → a.toNat < 0x8000 →
      s.cart.readRom a = romAt s (32 * r.bank2.toNat + r.bank1.toNat) (a.toNat - 0x4000)) ∧
    (r.bank1 ≠ 0 → (32 * r.bank2.toNat + r.bank1.toNat) % 32 ≠ 0) ∧
    (0xA000 ≤ a.toNat → a.toNat < 0xC000 → r.ramg = false ∨ s.cart.ramSize = 0 →
      memRead a s = (0xFF, s) ∧ memWrite a v s = s) ∧
    (0xA000 ≤ a.toNat → a.toNat < 0xC000 → r.ramg = true → s.cart.ramSize ≠ 0 →
      let i := ramAt s (if r.mode then r.bank2.toNat else 0) a
      memRead a s = (Memory.read 0x00 s.cart.ram i, s) ∧ memWrite a v s = withRam i v s)

/-- MBC2 (R126–R128). -/
def Obligations.Mbc2Cartridge : Prop :=
  ∀ (a : Word) (v : Byte) (r : Mbc2) (s : State), s.cart.mapper = .mbc2 r →
    (0x0100 ≤ a.toNat → a.toNat < 0x4000 → a.toNat / 256 % 2 = 0 →
      SameButRecord (withMapper (.mbc2 { r with ramg := decide (v.toNat % 16 = 0x0A) }) s)
        (memWrite a v s)) ∧
    (0x0100 ≤ a.toNat → a.toNat < 0x4000 → a.toNat / 256 % 2 = 1 →
      SameButRecord (withMapper (.mbc2 { r with
          romb := if v.toNat % 16 = 0 then 1 else BitVec.ofNat 4 v.toNat }) s)
        (memWrite a v s)) ∧
    (0x4000 ≤ a.toNat → a.toNat < 0x8000 → memWrite a v s = s) ∧
    (a.toNat < 0x4000 → s.cart.readRom a = romAt s 0 a.toNat) ∧
    (0x4000 ≤ a.toNat → a.toNat < 0x8000 →
      s.cart.readRom a = romAt s r.romb.toNat (a.toNat - 0x4000)) ∧
    (0xA000 ≤ a.toNat → a.toNat < 0xC000 → r.ramg = false →
      memRead a s = (0xFF, s) ∧ memWrite a v s = s) ∧
    (0xA000 ≤ a.toNat → a.toNat < 0xC000 → r.ramg = true →
      memRead a s = (0xF0 ||| Memory.read 0x00 s.cart.ram (a.toNat % 512), s) ∧
      memWrite a v s = withRam (a.toNat % 512) (BitVec.ofNat 8 (v.toNat % 16)) s)

/-- MBC3 (R130, R133, R136, R137). That `RtcRead` is a function of SEL and of the record, which a clock read
adds itself to, newest first, is the model's choice (log entries 6, 7 and 19). -/
def Obligations.Mbc3Cartridge : Prop :=
  ∀ (a : Word) (v : Byte) (clock : Bool) (r : Mbc3) (s : State), s.cart.mapper = .mbc3 clock r →
    (0x0100 ≤ a.toNat → a.toNat < 0x2000 →
      SameButRecord (withMapper (.mbc3 clock { r with ramg := decide (v.toNat % 16 = 0x0A) }) s)
        (memWrite a v s)) ∧
    (0x2000 ≤ a.toNat → a.toNat < 0x4000 →
      SameButRecord (withMapper (.mbc3 clock { r with
          romb := if v.toNat % 128 = 0 then 1 else BitVec.ofNat 7 v.toNat }) s)
        (memWrite a v s)) ∧
    (0x4000 ≤ a.toNat → a.toNat < 0x6000 →
      SameButRecord (withMapper (.mbc3 clock { r with sel := BitVec.ofNat 4 v.toNat }) s)
        (memWrite a v s)) ∧
    (0x6000 ≤ a.toNat → a.toNat < 0x8000 →
      memWrite a v s = recorded [.rtcLatch v] s) ∧
    (a.toNat < 0x4000 → s.cart.readRom a = romAt s 0 a.toNat) ∧
    (0x4000 ≤ a.toNat → a.toNat < 0x8000 →
      s.cart.readRom a = romAt s r.romb.toNat (a.toNat - 0x4000)) ∧
    (0xA000 ≤ a.toNat → a.toNat < 0xC000 → r.ramg = true → r.sel.toNat ≤ 3 → s.cart.ramSize ≠ 0 →
      memRead a s = (Memory.read 0x00 s.cart.ram (ramAt s r.sel.toNat a), s) ∧
      memWrite a v s = withRam (ramAt s r.sel.toNat a) v s) ∧
    (0xA000 ≤ a.toNat → a.toNat < 0xC000 → r.ramg = true → clock = true → 0x08 ≤ r.sel.toNat →
      r.sel.toNat ≤ 0x0C →
      memRead a s =
        (Config.rtcRead r.sel s.bus.events,
          recorded [.rtcRd r.sel (Config.rtcRead r.sel s.bus.events)] s) ∧
      memWrite a v s = recorded [.rtcWrite r.sel v] s) ∧
    (0xA000 ≤ a.toNat → a.toNat < 0xC000 →
      (r.ramg = false ∨ (r.sel.toNat ≤ 3 ∧ s.cart.ramSize = 0) ∨
        (3 < r.sel.toNat ∧ (clock = false ∨ r.sel.toNat < 0x08 ∨ 0x0C < r.sel.toNat))) →
      memRead a s = (0xFF, s) ∧ memWrite a v s = s)

/-- MBC5 (R141, R142, R145). -/
def Obligations.Mbc5Cartridge : Prop :=
  ∀ (a : Word) (v : Byte) (rumble : Bool) (r : Mbc5) (s : State), s.cart.mapper = .mbc5 rumble r →
    (0x0100 ≤ a.toNat → a.toNat < 0x2000 →
      SameButRecord (withMapper (.mbc5 rumble { r with ramg := decide (v.toNat = 0x0A) }) s)
        (memWrite a v s)) ∧
    (0x2000 ≤ a.toNat → a.toNat < 0x3000 →
      SameButRecord (withMapper (.mbc5 rumble { r with
          romb := BitVec.ofNat 9 (r.romb.toNat / 256 * 256 + v.toNat) }) s)
        (memWrite a v s)) ∧
    (0x3000 ≤ a.toNat → a.toNat < 0x4000 →
      SameButRecord (withMapper (.mbc5 rumble { r with
          romb := BitVec.ofNat 9 (v.toNat % 2 * 256 + r.romb.toNat % 256) }) s)
        (memWrite a v s)) ∧
    (0x4000 ≤ a.toNat → a.toNat < 0x6000 →
      SameButRecord (withMapper (.mbc5 rumble { r with
          ramb := BitVec.ofNat 4 (if rumble then v.toNat % 8 else v.toNat % 16) }) s)
        (memWrite a v s)) ∧
    (0x6000 ≤ a.toNat → a.toNat < 0x8000 → memWrite a v s = s) ∧
    (a.toNat < 0x4000 → s.cart.readRom a = romAt s 0 a.toNat) ∧
    (0x4000 ≤ a.toNat → a.toNat < 0x8000 →
      s.cart.readRom a = romAt s r.romb.toNat (a.toNat - 0x4000)) ∧
    (0xA000 ≤ a.toNat → a.toNat < 0xC000 → r.ramg = false ∨ s.cart.ramSize = 0 →
      memRead a s = (0xFF, s) ∧ memWrite a v s = s) ∧
    (0xA000 ≤ a.toNat → a.toNat < 0xC000 → r.ramg = true → s.cart.ramSize ≠ 0 →
      memRead a s = (Memory.read 0x00 s.cart.ram (ramAt s r.ramb.toNat a), s) ∧
      memWrite a v s = withRam (ramAt s r.ramb.toNat a) v s)

/-- The stack primitives (R88, R89). -/
def Obligations.PushThenPop : Prop :=
  ∀ (v : Word) (s : State),
    push16 v s = pushed v s ∧
    pop16 s = (popped s, afterPop s) ∧
    (s.memWf = true → PlainRam (s.regs.sp - 1) → PlainRam (s.regs.sp - 2) →
      readValue (s.regs.sp - 1) (pushed v s) ++ readValue (s.regs.sp - 2) (pushed v s) = v ∧
      pop16 (push16 v s) = (v, withSP s.regs.sp (pushed v s)))

/-- A few words, written out from R169, R173–R176 and the examples of the instruction rules. -/
def Obligations.DecodesManualWords : Prop :=
  decode [0x00] = .ok (.nop, []) ∧
  decode [0xC3, 0x50, 0x01] = .ok (.jp_nn 0x0150, []) ∧
  decode [0xCB, 0x37] = .ok (.swap_A, []) ∧
  decode [0xCB, 0x7C] = .ok (.bit_7_H, []) ∧
  decode [0xCB, 0x86] = .ok (.res_0_atHL, []) ∧
  decode [0xCB, 0xFF] = .ok (.set_7_A, []) ∧
  decode [0xCB, 0xCB] = .ok (.set_1_E, []) ∧
  decode [0x10, 0xCB] = .ok (.stop 0xCB, []) ∧
  decode [0x31, 0xFE, 0xFF] = .ok (.ld_SP_nn 0xFFFE, []) ∧
  decode [0xFA, 0x23, 0xC1] = .ok (.ld_A_atNn 0xC123, []) ∧
  decode [0xE0, 0x50] = .ok (.ldh_atN_A 0x50, []) ∧
  decode [0xC5] = .ok (.push_BC, []) ∧
  decode [0x86] = .ok (.add_A_atHL, []) ∧
  decode [0xDE, 0x3B] = .ok (.sbc_A_n 0x3B, []) ∧
  decode [0x34] = .ok (.inc_atHL, []) ∧
  decode [0x39] = .ok (.add_HL_SP, []) ∧
  decode [0xF8, 0x02] = .ok (.ld_HL_SPe 0x02, []) ∧
  decode [0x07] = .ok (.rlca, []) ∧
  decode [0x18, 0xFB] = .ok (.jr_e 0xFB, []) ∧
  decode [0xCD, 0x00, 0x02] = .ok (.call_nn 0x0200, []) ∧
  decode [0xEF] = .ok (.rst_28, []) ∧
  decode [0x76] = .ok (.halt, []) ∧
  decode [0xF3] = .ok (.di, []) ∧
  decode [0xFB] = .ok (.ei, []) ∧
  decode [0xD3] = .ok (.invalid_D3, [])

/-- The round trip over all instructions: no bit of an encoding is dropped. -/
def Obligations.DecodeOfEncode : Prop :=
  ∀ (i : Instr) (rest : List Byte), WellFormed i = true → decode (encode i ++ rest) = .ok (i, rest)

/-- Decoding is total, and each word has one meaning (R180; the INVALID slots of R176, the lengths of R160).
-/
def Obligations.DecodingIsTotalAndFaithful : Prop :=
  (∀ (op b1 b2 : Byte) (rest : List Byte),
    ∃ i left, decode (op :: b1 :: b2 :: rest) = .ok (i, left) ∧ WellFormed i = true ∧
      encode i ++ left = op :: b1 :: b2 :: rest ∧
      1 ≤ (encode i).length ∧ (encode i).length ≤ 3 ∧
      (IsInvalid i ↔ op ∈ invalidSlots)) ∧
  (∀ (op b1 b2 c1 c2 : Byte) (i j : Instr) (k l : List Byte),
    decode [op, b1, b2] = .ok (i, k) → decode [op, c1, c2] = .ok (j, l) →
      (encode i).length = (encode j).length)

/-- The register loads (R200, R201, R219, R221): the 49 constructors `ld_X_Y` of two registers, the 7
`ld_X_n`, `ld_BC_nn`, `ld_DE_nn`, `ld_HL_nn`, `ld_SP_nn` and `ld_SP_HL`. -/
def Obligations.RegisterLoads : Prop :=
  ∀ (dst src : R8) (p : Rp) (n : Byte) (nn : Word) (s : State),
    encode (Instr.ld (.reg dst) (.reg src)) = [0x40 + 8 * rCode dst + rCode src] ∧
    exec (Instr.ld (.reg dst) (.reg src)) s = done 4 (withReg dst (reg src s) s) ∧
    encode (Instr.ldImm (.reg dst) n) = [0x06 + 8 * rCode dst, n] ∧
    exec (Instr.ldImm (.reg dst) n) s = done 8 (withReg dst n s) ∧
    encode (Instr.ldPair p nn) = [0x01 + 16 * rpCode p, lo nn, hi nn] ∧
    exec (Instr.ldPair p nn) s = done 12 (withPair p nn s) ∧
    encode .ld_SP_HL = [0xF9] ∧
    exec .ld_SP_HL s = done 8 (withSP (hl s) s)

/-- The loads from memory (R202, R205, R206, R209, R211, R213): the 7 constructors `ld_X_atHL`, `ld_A_atBC`,
`ld_A_atDE`, `ld_A_atNn`, `ld_A_atC`, `ldh_A_atN`. -/
def Obligations.LoadsFromMemory : Prop :=
  ∀ (dst : R8) (n : Byte) (nn : Word) (s : State),
    let highC : Word := 0xFF00 + s.regs.c.setWidth 16
    let highN : Word := 0xFF00 + n.setWidth 16
    encode (Instr.ld (.reg dst) .atHL) = [0x46 + 8 * rCode dst] ∧
    exec (Instr.ld (.reg dst) .atHL) s =
      done 8 (withReg dst (readValue (hl s) s) (afterRead (hl s) s)) ∧
    encode .ld_A_atBC = [0x0A] ∧
    exec .ld_A_atBC s = done 8 (withReg .a (readValue (bc s) s) (afterRead (bc s) s)) ∧
    encode .ld_A_atDE = [0x1A] ∧
    exec .ld_A_atDE s = done 8 (withReg .a (readValue (de s) s) (afterRead (de s) s)) ∧
    encode (.ld_A_atNn nn) = [0xFA, lo nn, hi nn] ∧
    exec (.ld_A_atNn nn) s = done 16 (withReg .a (readValue nn s) (afterRead nn s)) ∧
    encode .ld_A_atC = [0xF2] ∧
    exec .ld_A_atC s = done 8 (withReg .a (readValue highC s) (afterRead highC s)) ∧
    encode (.ldh_A_atN n) = [0xF0, n] ∧
    exec (.ldh_A_atN n) s = done 12 (withReg .a (readValue highN s) (afterRead highN s))

/-- The stores (R203, R204, R207, R208, R210, R212, R214, R220): the 7 constructors `ld_atHL_X`,
`ld_atHL_n`, `ld_atBC_A`, `ld_atDE_A`, `ld_atNn_A`, `ld_atC_A`, `ldh_atN_A`, `ld_atNn_SP`. -/
def Obligations.StoresToMemory : Prop :=
  ∀ (src : R8) (n : Byte) (nn : Word) (s : State),
    encode (Instr.ld .atHL (.reg src)) = [0x70 + rCode src] ∧
    exec (Instr.ld .atHL (.reg src)) s = done 8 (memWrite (hl s) (reg src s) s) ∧
    encode (.ld_atHL_n n) = [0x36, n] ∧
    exec (.ld_atHL_n n) s = done 12 (memWrite (hl s) n s) ∧
    encode .ld_atBC_A = [0x02] ∧ exec .ld_atBC_A s = done 8 (memWrite (bc s) s.regs.a s) ∧
    encode .ld_atDE_A = [0x12] ∧ exec .ld_atDE_A s = done 8 (memWrite (de s) s.regs.a s) ∧
    encode (.ld_atNn_A nn) = [0xEA, lo nn, hi nn] ∧
    exec (.ld_atNn_A nn) s = done 16 (memWrite nn s.regs.a s) ∧
    encode .ld_atC_A = [0xE2] ∧
    exec .ld_atC_A s = done 8 (memWrite (0xFF00 + s.regs.c.setWidth 16) s.regs.a s) ∧
    encode (.ldh_atN_A n) = [0xE0, n] ∧
    exec (.ldh_atN_A n) s = done 12 (memWrite (0xFF00 + n.setWidth 16) s.regs.a s) ∧
    encode (.ld_atNn_SP nn) = [0x08, lo nn, hi nn] ∧
    exec (.ld_atNn_SP nn) s =
      done 20 (memWrite (nn + 1) (hi s.regs.sp) (memWrite nn (lo s.regs.sp) s))

/-- The accumulator loads with post-modification (R215–R218): `ld_A_atHLd`, `ld_atHLd_A`, `ld_A_atHLi`,
`ld_atHLi_A`. -/
def Obligations.LoadsSteppingHL : Prop :=
  ∀ s : State,
    let down := BitVec.ofNat 16 ((hl s).toNat + 65535)
    let up := BitVec.ofNat 16 ((hl s).toNat + 1)
    encode .ld_A_atHLd = [0x3A] ∧
    exec .ld_A_atHLd s =
      done 8 (withHL down (withReg .a (readValue (hl s) s) (afterRead (hl s) s))) ∧
    encode .ld_atHLd_A = [0x32] ∧
    exec .ld_atHLd_A s = done 8 (withHL down (memWrite (hl s) s.regs.a s)) ∧
    encode .ld_A_atHLi = [0x2A] ∧
    exec .ld_A_atHLi s =
      done 8 (withHL up (withReg .a (readValue (hl s) s) (afterRead (hl s) s))) ∧
    encode .ld_atHLi_A = [0x22] ∧
    exec .ld_atHLi_A s = done 8 (withHL up (memWrite (hl s) s.regs.a s))

/-- The stack instructions (R222, R223): `push_BC`, `push_DE`, `push_HL`, `push_AF`, `pop_BC`, `pop_DE`,
`pop_HL`, `pop_AF`. -/
def Obligations.PushAndPop : Prop :=
  ∀ (p : Rp2) (s : State),
    encode (Instr.push p) = [0xC5 + 16 * rp2Code p] ∧
    exec (Instr.push p) s = done 16 (pushed (pair2 p s) s) ∧
    encode (Instr.pop p) = [0xC1 + 16 * rp2Code p] ∧
    exec (Instr.pop p) s = done 12 (withPair2 p (popped s) (afterPop s))

/-- ADD and ADC (R250, R253–R258): the 8 constructors `add_A_X`, `add_A_n`, the 8 `adc_A_X`, `adc_A_n`. -/
def Obligations.AddAndAdc : Prop :=
  ∀ (m : Rm) (n : Byte) (s : State),
    let sum := fun (v : Byte) (c : Nat) (t : State) =>
      let r := s.regs.a.toNat + v.toNat + c
      withAF (BitVec.ofNat 8 (r % 256))
        (fByte (decide (r % 256 = 0)) false
          (decide (s.regs.a.toNat % 16 + v.toNat % 16 + c > 0x0F)) (decide (r > 0xFF))) t
    encode (Instr.alu .add m) = [0x80 + rmCode m] ∧
    exec (Instr.alu .add m) s = done (byForm m 4 8) (sum (operand m s) 0 (afterOperand m s)) ∧
    encode (Instr.aluImm .add n) = [0xC6, n] ∧
    exec (Instr.aluImm .add n) s = done 8 (sum n 0 s) ∧
    encode (Instr.alu .adc m) = [0x88 + rmCode m] ∧
    exec (Instr.alu .adc m) s =
      done (byForm m 4 8) (sum (operand m s) (cf s).toNat (afterOperand m s)) ∧
    encode (Instr.aluImm .adc n) = [0xCE, n] ∧
    exec (Instr.aluImm .adc n) s = done 8 (sum n (cf s).toNat s)

/-- SUB, SBC and CP (R251, R259–R264, R274–R276): the 8 constructors `sub_X`, `sub_n`, the 8 `sbc_A_X`,
`sbc_A_n`, the 8 `cp_X`, `cp_n`. -/
def Obligations.SubSbcAndCp : Prop :=
  ∀ (m : Rm) (n : Byte) (s : State),
    let diff := fun (v : Byte) (c : Nat) => BitVec.ofNat 8 (s.regs.a.toNat + 512 - v.toNat - c)
    let flags := fun (v : Byte) (c : Nat) =>
      fByte (decide (s.regs.a.toNat % 256 = (v.toNat + c) % 256)) true
        (decide (s.regs.a.toNat % 16 < v.toNat % 16 + c)) (decide (s.regs.a.toNat < v.toNat + c))
    let v := operand m s
    let t := afterOperand m s
    encode (Instr.alu .sub m) = [0x90 + rmCode m] ∧
    exec (Instr.alu .sub m) s = done (byForm m 4 8) (withAF (diff v 0) (flags v 0) t) ∧
    encode (Instr.aluImm .sub n) = [0xD6, n] ∧
    exec (Instr.aluImm .sub n) s = done 8 (withAF (diff n 0) (flags n 0) s) ∧
    encode (Instr.alu .sbc m) = [0x98 + rmCode m] ∧
    exec (Instr.alu .sbc m) s =
      done (byForm m 4 8) (withAF (diff v (cf s).toNat) (flags v (cf s).toNat) t) ∧
    encode (Instr.aluImm .sbc n) = [0xDE, n] ∧
    exec (Instr.aluImm .sbc n) s =
      done 8 (withAF (diff n (cf s).toNat) (flags n (cf s).toNat) s) ∧
    encode (Instr.alu .cp m) = [0xB8 + rmCode m] ∧
    exec (Instr.alu .cp m) s = done (byForm m 4 8) (withF (flags v 0) t) ∧
    encode (Instr.aluImm .cp n) = [0xFE, n] ∧
    exec (Instr.aluImm .cp n) s = done 8 (withF (flags n 0) s)

/-- AND, XOR and OR (R252, R265–R273): the 8 constructors `and_X`, `and_n`, the 8 `xor_X`, `xor_n`, the 8
`or_X`, `or_n`. -/
def Obligations.AndXorOr : Prop :=
  ∀ (m : Rm) (n : Byte) (s : State),
    let by2 := fun (f : Bool → Bool → Bool) (h : Bool) (v : Byte) (t : State) =>
      let r := BitVec.ofFnLE (n := 8) fun i => f (s.regs.a.getLsbD i) (v.getLsbD i)
      withAF r (fByte (decide (r.toNat = 0)) false h false) t
    let v := operand m s
    let t := afterOperand m s
    encode (Instr.alu .and m) = [0xA0 + rmCode m] ∧
    exec (Instr.alu .and m) s = done (byForm m 4 8) (by2 and true v t) ∧
    encode (Instr.aluImm .and n) = [0xE6, n] ∧
    exec (Instr.aluImm .and n) s = done 8 (by2 and true n s) ∧
    encode (Instr.alu .xor m) = [0xA8 + rmCode m] ∧
    exec (Instr.alu .xor m) s = done (byForm m 4 8) (by2 Bool.xor false v t) ∧
    encode (Instr.aluImm .xor n) = [0xEE, n] ∧
    exec (Instr.aluImm .xor n) s = done 8 (by2 Bool.xor false n s) ∧
    encode (Instr.alu .or m) = [0xB0 + rmCode m] ∧
    exec (Instr.alu .or m) s = done (byForm m 4 8) (by2 or false v t) ∧
    encode (Instr.aluImm .or n) = [0xF6, n] ∧
    exec (Instr.aluImm .or n) s = done 8 (by2 or false n s)

/-- INC and DEC (R277–R280): the 8 constructors `inc_X` and the 8 `dec_X` of table `r`. -/
def Obligations.IncAndDec : Prop :=
  ∀ (m : Rm) (s : State),
    let v := operand m s
    let t := afterOperand m s
    encode (Instr.inc m) = [0x04 + 8 * rmCode m] ∧
    exec (Instr.inc m) s =
      done (byForm m 4 12)
        (withF (fByte (decide (v = 0xFF)) false (decide (v.toNat % 16 = 0x0F)) (cf s))
          (withOperand m (BitVec.ofNat 8 (v.toNat + 1)) t)) ∧
    encode (Instr.dec m) = [0x05 + 8 * rmCode m] ∧
    exec (Instr.dec m) s =
      done (byForm m 4 12)
        (withF (fByte (decide (v = 0x01)) true (decide (v.toNat % 16 = 0x00)) (cf s))
          (withOperand m (BitVec.ofNat 8 (v.toNat + 255)) t))

/-- DAA (R281). -/
def Obligations.DecimalAdjust : Prop :=
  ∀ s : State,
    let a := s.regs.a
    let high := !nf s && decide (a.toNat > 0x99)
    let low := !nf s && decide (a.toNat % 16 > 0x09)
    let six0 : Byte := if cf s || high then 0x60 else 0x00
    let six : Byte := if hf s || low then 0x06 else 0x00
    let r := if nf s then a - six0 - six else a + six0 + six
    encode .daa = [0x27] ∧
    exec .daa s =
      done 4 (withAF r (fByte (decide (r.toNat = 0)) (nf s) false (cf s || high)) s)

/-- CPL, SCF, CCF (R282–R284). -/
def Obligations.CplScfCcf : Prop :=
  ∀ s : State,
    encode .cpl = [0x2F] ∧
    exec .cpl s =
      done 4 (withAF (BitVec.ofNat 8 (255 - s.regs.a.toNat)) (fByte (zf s) true true (cf s)) s) ∧
    encode .scf = [0x37] ∧ exec .scf s = done 4 (withF (fByte (zf s) false false true) s) ∧
    encode .ccf = [0x3F] ∧ exec .ccf s = done 4 (withF (fByte (zf s) false false (!cf s)) s)

/-- The pair arithmetic (R301–R303): `add_HL_X`, `inc_X`, `dec_X` for BC, DE, HL, SP. -/
def Obligations.PairArithmetic : Prop :=
  ∀ (p : Rp) (s : State),
    let x := (hl s).toNat
    let y := (pair p s).toNat
    encode (Instr.addHL p) = [0x09 + 16 * rpCode p] ∧
    exec (Instr.addHL p) s =
      done 8
        (withF (fByte (zf s) false (decide (x % 4096 + y % 4096 > 0x0FFF)) (decide (x + y > 0xFFFF)))
          (withHL (BitVec.ofNat 16 (x + y)) s)) ∧
    encode (Instr.incPair p) = [0x03 + 16 * rpCode p] ∧
    exec (Instr.incPair p) s = done 8 (withPair p (BitVec.ofNat 16 (y + 1)) s) ∧
    encode (Instr.decPair p) = [0x0B + 16 * rpCode p] ∧
    exec (Instr.decPair p) s = done 8 (withPair p (BitVec.ofNat 16 (y + 65535)) s)

/-- The signed displacement adds (R300, R304, R305). -/
def Obligations.StackPointerDisplacement : Prop :=
  ∀ (e : Byte) (s : State),
    let r := BitVec.ofInt 16 ((s.regs.sp.toNat : Int) + displacement e)
    let f := fByte false false (decide (s.regs.sp.toNat % 16 + e.toNat % 16 > 0x0F))
      (decide (s.regs.sp.toNat % 256 + e.toNat > 0xFF))
    encode (.add_SP_e e) = [0xE8, e] ∧
    exec (.add_SP_e e) s = done 16 (withF f (withSP r s)) ∧
    encode (.ld_HL_SPe e) = [0xF8, e] ∧
    exec (.ld_HL_SPe e) s = done 12 (withF f (withHL r s))

/-- The accumulator rotates (R320–R323). -/
def Obligations.AccumulatorRotates : Prop :=
  ∀ s : State,
    let a := s.regs.a.toNat
    let out7 := fByte false false false (decide (128 ≤ a))
    let out0 := fByte false false false (decide (a % 2 = 1))
    encode .rlca = [0x07] ∧
    exec .rlca s = done 4 (withAF (BitVec.ofNat 8 (2 * a + a / 128)) out7 s) ∧
    encode .rrca = [0x0F] ∧
    exec .rrca s = done 4 (withAF (BitVec.ofNat 8 (a / 2 + 128 * (a % 2))) out0 s) ∧
    encode .rla = [0x17] ∧
    exec .rla s = done 4 (withAF (BitVec.ofNat 8 (2 * a + (cf s).toNat)) out7 s) ∧
    encode .rra = [0x1F] ∧
    exec .rra s = done 4 (withAF (BitVec.ofNat 8 (a / 2 + 128 * (cf s).toNat)) out0 s)

/-- The CB rotates (R325–R332): the 8 constructors each of `rlc_X`, `rrc_X`, `rl_X`, `rr_X`. -/
def Obligations.CbRotates : Prop :=
  ∀ (m : Rm) (s : State),
    let v := (operand m s).toNat
    let c := (cf s).toNat
    let result := fun (r : Nat) (out : Bool) =>
      done (byForm m 8 16)
        (withF (fByte (decide (r % 256 = 0)) false false out)
          (withOperand m (BitVec.ofNat 8 r) (afterOperand m s)))
    encode (Instr.rot .rlc m) = [0xCB, 0x00 + rmCode m] ∧
    exec (Instr.rot .rlc m) s = result (2 * v + v / 128) (decide (128 ≤ v)) ∧
    encode (Instr.rot .rrc m) = [0xCB, 0x08 + rmCode m] ∧
    exec (Instr.rot .rrc m) s = result (v / 2 + 128 * (v % 2)) (decide (v % 2 = 1)) ∧
    encode (Instr.rot .rl m) = [0xCB, 0x10 + rmCode m] ∧
    exec (Instr.rot .rl m) s = result (2 * v + c) (decide (128 ≤ v)) ∧
    encode (Instr.rot .rr m) = [0xCB, 0x18 + rmCode m] ∧
    exec (Instr.rot .rr m) s = result (v / 2 + 128 * c) (decide (v % 2 = 1))

/-- The CB shifts and SWAP (R333–R340): the 8 constructors each of `sla_X`, `sra_X`, `swap_X`, `srl_X`. -/
def Obligations.CbShiftsAndSwap : Prop :=
  ∀ (m : Rm) (s : State),
    let v := (operand m s).toNat
    let result := fun (r : Nat) (out : Bool) =>
      done (byForm m 8 16)
        (withF (fByte (decide (r % 256 = 0)) false false out)
          (withOperand m (BitVec.ofNat 8 r) (afterOperand m s)))
    encode (Instr.rot .sla m) = [0xCB, 0x20 + rmCode m] ∧
    exec (Instr.rot .sla m) s = result (2 * v) (decide (128 ≤ v)) ∧
    encode (Instr.rot .sra m) = [0xCB, 0x28 + rmCode m] ∧
    exec (Instr.rot .sra m) s = result (v / 2 + v / 128 * 128) (decide (v % 2 = 1)) ∧
    encode (Instr.rot .swap m) = [0xCB, 0x30 + rmCode m] ∧
    exec (Instr.rot .swap m) s = result (v % 16 * 16 + v / 16) false ∧
    encode (Instr.rot .srl m) = [0xCB, 0x38 + rmCode m] ∧
    exec (Instr.rot .srl m) s = result (v / 2) (decide (v % 2 = 1))

/-- BIT, RES and SET (R341–R346): the 64 constructors each of `bit_b_X`, `res_b_X`, `set_b_X`. -/
def Obligations.BitResSet : Prop :=
  ∀ (b : Fin 8) (m : Rm) (s : State),
    let v := operand m s
    let t := afterOperand m s
    let withBit := fun x : Bool =>
      BitVec.ofFnLE (n := 8) fun i => if i.val = b.val then x else v.getLsbD i
    encode (Instr.bit b m) = [0xCB, 0x40 + BitVec.ofNat 8 (8 * b.val) + rmCode m] ∧
    exec (Instr.bit b m) s =
      done (byForm m 8 12)
        (withF (fByte (decide (v.toNat / 2 ^ b.val % 2 = 0)) false true (cf s)) t) ∧
    encode (Instr.res b m) = [0xCB, 0x80 + BitVec.ofNat 8 (8 * b.val) + rmCode m] ∧
    exec (Instr.res b m) s = done (byForm m 8 16) (withOperand m (withBit false) t) ∧
    encode (Instr.set b m) = [0xCB, 0xC0 + BitVec.ofNat 8 (8 * b.val) + rmCode m] ∧
    exec (Instr.set b m) s = done (byForm m 8 16) (withOperand m (withBit true) t)

/-- The jumps (R360–R365): `jp_nn`, the 4 `jp_X_nn`, `jp_HL`, `jr_e`, the 4 `jr_X_e`. -/
def Obligations.Jumps : Prop :=
  ∀ (k : Cond) (e : Byte) (nn : Word) (s : State),
    let target := BitVec.ofInt 16 ((s.regs.pc.toNat : Int) + displacement e)
    encode (.jp_nn nn) = [0xC3, lo nn, hi nn] ∧ exec (.jp_nn nn) s = done 16 (withPC nn s) ∧
    encode (Instr.jpCond k nn) = [0xC2 + 8 * ccCode k, lo nn, hi nn] ∧
    (holds k s → exec (Instr.jpCond k nn) s = done 16 (withPC nn s)) ∧
    (¬ holds k s → exec (Instr.jpCond k nn) s = done 12 s) ∧
    encode .jp_HL = [0xE9] ∧ exec .jp_HL s = done 4 (withPC (hl s) s) ∧
    encode (.jr_e e) = [0x18, e] ∧ exec (.jr_e e) s = done 12 (withPC target s) ∧
    encode (Instr.jrCond k e) = [0x20 + 8 * ccCode k, e] ∧
    (holds k s → exec (Instr.jrCond k e) s = done 12 (withPC target s)) ∧
    (¬ holds k s → exec (Instr.jrCond k e) s = done 8 s)

/-- The calls (R366, R367, R371): `call_nn`, the 4 `call_X_nn`, the 8 `rst_X`. -/
def Obligations.CallsAndRestarts : Prop :=
  ∀ (k : Cond) (y : Fin 8) (nn : Word) (s : State),
    encode (.call_nn nn) = [0xCD, lo nn, hi nn] ∧
    exec (.call_nn nn) s = done 24 (withPC nn (pushed s.regs.pc s)) ∧
    encode (Instr.callCond k nn) = [0xC4 + 8 * ccCode k, lo nn, hi nn] ∧
    (holds k s → exec (Instr.callCond k nn) s = done 24 (withPC nn (pushed s.regs.pc s))) ∧
    (¬ holds k s → exec (Instr.callCond k nn) s = done 12 s) ∧
    encode (Instr.rst y) = [0xC7 + BitVec.ofNat 8 (8 * y.val)] ∧
    exec (Instr.rst y) s = done 16 (withPC (BitVec.ofNat 16 (8 * y.val)) (pushed s.regs.pc s))

/-- The returns (R368–R370): `ret`, the 4 `ret_X`, `reti`. -/
def Obligations.Returns : Prop :=
  ∀ (k : Cond) (s : State),
    let r := withPC (popped s) (afterPop s)
    encode .ret = [0xC9] ∧ exec .ret s = done 16 r ∧
    encode (Instr.retCond k) = [0xC0 + 8 * ccCode k] ∧
    (holds k s → exec (Instr.retCond k) s = done 20 r) ∧
    (¬ holds k s → exec (Instr.retCond k) s = done 8 s) ∧
    encode .reti = [0xD9] ∧ exec .reti s = done 16 { r with imeSched := true }

/-- NOP, HALT, STOP, DI, EI (R393–R397). The fetch, the later wake and the IME commit are in the statements
about steps. -/
def Obligations.CpuControlInstructions : Prop :=
  ∀ (x : Byte) (s : State),
    encode .nop = [0x00] ∧ exec .nop s = done 4 s ∧
    encode .halt = [0x76] ∧ exec .halt s = done 4 { s with halted := true } ∧
    encode (.stop x) = [0x10, x] ∧ exec (.stop x) s = done 4 { s with halted := true } ∧
    encode .di = [0xF3] ∧ exec .di s = done 4 { s with ime := false, imeSched := false } ∧
    encode .ei = [0xFB] ∧ exec .ei s = done 4 { s with imeSched := true }

/-- The escape (R398): `prefixCb`, the one instruction that is no complete one by itself (R175). -/
def Obligations.PrefixCbRunsTheCbEntry : Prop :=
  ∀ s : State,
    let op2 := readValue s.regs.pc s
    encode .prefixCb = [0xCB] ∧
    ∃ (i : Instr) (t : State),
      decode [0xCB, op2] = .ok (i, []) ∧ ¬ IsInvalid i ∧
      exec .prefixCb s = exec i (withPC (s.regs.pc + 1) (afterRead s.regs.pc s)) ∧
      exec .prefixCb s = .next t ∧
      t.report =
        some (.ok (if op2.toNat % 8 ≠ 6 then 8 else if op2.toNat / 64 = 1 then 12 else 16))

/-- The INVALID slots (R32, R390, R399, R411): the 11 constructors `invalid_XX`. That the step of the slot
answers a next state which reports Stopped, and every later step a fault, is the model's choice (log entry
4). -/
def Obligations.InvalidSlotsStopTheMachine : Prop :=
  ∀ (op : Byte) (i : Instr) (s : State), op ∈ invalidSlots → encode i = [op] →
    let stop := fun (a : Word) (t : State) =>
      { t with
        fault := some { op := .plain op, addr := a }
        report := some (.stopped { op := .plain op, addr := a }) }
    exec i s = .next (stop (s.regs.pc - 1) s) ∧
    (RunsInstruction s → readValue s.regs.pc s = op →
      let t := stop s.regs.pc (withPC (s.regs.pc + 1) (afterRead s.regs.pc s))
      step s = .next t ∧ step t = .fault (.invalidOpcode { op := .plain op, addr := s.regs.pc })) ∧
    (∀ (t : State) (f : InvalidOpcode), t.fault = some f → step t = .fault (.invalidOpcode f))

/-- The step and the instruction it runs (R390, R391; the commit of R392). -/
def Obligations.StepRunsDecodedInstruction : Prop :=
  ∀ s : State, RunsInstruction s →
    (∃ (n : Nat) (i : Instr), 1 ≤ n ∧ n ≤ 3 ∧ decode (fetched n s).1 = .ok (i, [])) ∧
    ∀ (n : Nat) (i : Instr), decode (fetched n s).1 = .ok (i, []) →
      WellFormed i = true ∧
      (fetched n s).2.regs.pc = s.regs.pc + BitVec.ofNat 16 n ∧
      step s =
        match exec i (fetched n s).2 with
        | .next t =>
          .next (if s.imeSched = true ∧ t.imeSched = true ∧ t.fault = none then
            { t with ime := true, imeSched := false } else t)
        | .fault f => .fault f
        | .refused r => .refused r

/-- The IME commit (R392). -/
def Obligations.ImeCommitAfterOneInstruction : Prop :=
  ∀ (s : State) (n : Nat) (i : Instr),
    (RunsInstruction s → decode (fetched n s).1 = .ok (i, []) →
      ∃ t, step s = .next t ∧
        (s.imeSched = false → i = .ei ∨ i = .reti → t.ime = s.ime ∧ t.imeSched = true) ∧
        (s.imeSched = true → i = .di → t.ime = false ∧ t.imeSched = false) ∧
        (s.imeSched = true → IsInvalid i → t.ime = s.ime ∧ t.imeSched = true) ∧
        (s.imeSched = true → i ≠ .di → ¬ IsInvalid i → t.ime = true ∧ t.imeSched = false)) ∧
    (∀ t, s.halted = true → step s = .next t → t.ime = s.ime ∧ t.imeSched = s.imeSched) ∧
    (∀ t, s.halted = false → s.ime = true → pending s ≠ 0 → step s = .next t →
      t.ime = false ∧ t.imeSched = false) ∧
    (∀ t, step s = .next t → (s.halted = true → s.imeSched = false) →
      t.halted = true → t.imeSched = false)

/-- The halted tick and the wake (R421, R422). -/
def Obligations.HaltedSteps : Prop :=
  ∀ s : State, s.fault = none → s.halted = true →
    (s.irq.ie.setWidth 5 &&& s.irq.ifr = 0 → step s = done 4 s) ∧
    (s.irq.ie.setWidth 5 &&& s.irq.ifr ≠ 0 →
      step s = done 4 { s with halted := false } ∧
      (∀ t, step s = .next t →
        (s.ime = true → ∃ u, step t = .next u ∧ u.report = some (.ok 20) ∧ u.ime = false) ∧
        (s.ime = false → RunsInstruction t)))

/-- Interrupt dispatch (R417, R419, R420). -/
def Obligations.InterruptDispatch : Prop :=
  ∀ (k : Fin 5) (s : State), s.fault = none → s.halted = false → s.ime = true →
    (pending s).getLsbD k.val = true → (∀ j, j < k.val → (pending s).getLsbD j = false) →
    step s =
      done 20
        (withPC (BitVec.ofNat 16 (0x40 + 8 * k.val))
          (pushed s.regs.pc
            { s with
              ime := false
              imeSched := false
              irq := { s.irq with ifr := s.irq.ifr &&& ~~~ BitVec.ofNat 5 (2 ^ k.val) } }))

/-- The invariant of the machine is kept by every step, from every state that meets it. -/
def Obligations.StepKeepsInvariant : Prop :=
  ∀ s t : State, s.Inv = true → step s = .next t → t.Inv = true

/-- State.reset meets the invariant; its cartridge is the model's choice (log entry 2). -/
def Obligations.ResetMeetsInvariant : Prop :=
  State.reset.Inv = true

/-- The invariant of every reachable state of a session (R416, R431, R460). That requests are operations of
their own between steps is the model's choice (log entry 11). -/
def Obligations.ReachableMeetsInvariant : Prop :=
  ∀ s : State, Reachable s → s.Inv = true

/-- Every instruction with a cost completes, with the cost of the catalog (R179; the figures of R173, R174).
-/
def Obligations.CyclesMatchTheCatalog : Prop :=
  (∀ (i : Instr) (s : State) (n : Nat), costOf (descriptor i) s.regs.flags = some n →
    ∃ t, exec i s = .next t ∧ t.report = some (.ok n)) ∧
  (∀ (i : Instr) (fl : Flags), costOf (descriptor i) fl = none ↔ IsInvalid i ∨ i = .prefixCb) ∧
  (∀ i : Instr, (descriptor i).branch.isSome = true ↔
    ∃ (k : Cond) (e : Byte) (nn : Word), i = Instr.jrCond k e ∨ i = Instr.jpCond k nn ∨
      i = Instr.callCond k nn ∨ i = Instr.retCond k) ∧
  (∀ i : Instr, i ≠ .prefixCb → (encode i).length = (descriptor i).length) ∧
  (∀ (k : Cond) (e : Byte) (nn : Word),
    (descriptor (Instr.jrCond k e)).cycles = some 12 ∧
    (descriptor (Instr.jrCond k e)).branch = some (k, 8) ∧
    (descriptor (Instr.jpCond k nn)).cycles = some 16 ∧
    (descriptor (Instr.jpCond k nn)).branch = some (k, 12) ∧
    (descriptor (Instr.callCond k nn)).cycles = some 24 ∧
    (descriptor (Instr.callCond k nn)).branch = some (k, 12) ∧
    (descriptor (Instr.retCond k)).cycles = some 20 ∧
    (descriptor (Instr.retCond k)).branch = some (k, 8))

/-- What no program can change (R34, R35, R65, R74, R100). -/
def Obligations.RomAndBootNeverChange : Prop :=
  ∀ s t : State, step s = .next t →
    t.cart.rom = s.cart.rom ∧ t.cart.romLen = s.cart.romLen ∧ t.cart.romBanks = s.cart.romBanks ∧
    t.cart.ramSize = s.cart.ramSize ∧ t.bus.boot = s.bus.boot ∧
    (t.bus.bootMapped = true → s.bus.bootMapped = true) ∧
    (match s.cart.mapper, t.cart.mapper with
      | .noMapper, .noMapper => True
      | .mbc1 _, .mbc1 _ => True
      | .mbc2 _, .mbc2 _ => True
      | .mbc3 x _, .mbc3 y _ => x = y
      | .mbc5 x _, .mbc5 y _ => x = y
      | _, _ => False)

/-- The writers of the control flags (R29–R32). -/
def Obligations.ControlFlagsAreWrittenOnlyBy : Prop :=
  (∀ (i : Instr) (s t : State), exec i s = .next t →
    (i ≠ .di → t.ime = s.ime) ∧
    (i ≠ .di → i ≠ .ei → i ≠ .reti → t.imeSched = s.imeSched) ∧
    (i ≠ .halt → (∀ x, i ≠ .stop x) → t.halted = s.halted) ∧
    (¬ IsInvalid i → t.fault = s.fault)) ∧
  (∀ s t : State, step s = .next t →
    (t.ime ≠ s.ime →
      s.halted = false ∧
      ((s.ime = true ∧ pending s ≠ 0 ∧ t.ime = false) ∨
        (t.ime = false ∧ ∃ n, decode (fetched n s).1 = .ok (.di, [])) ∨
        (s.imeSched = true ∧ t.ime = true ∧ t.imeSched = false))) ∧
    (s.halted = true → t.halted = false → pending s ≠ 0) ∧
    s.fault = none)

/-- The host requests (R416), and their dispatch (R417–R420, R476). That `request` and `requestAll` are
operations of their own between steps is the model's choice (log entry 11). -/
def Obligations.HostRequestsOnlySetIfBits : Prop :=
  ∀ (s : State) (m : BitVec 5) (k : IrqSource) (j : Nat),
    (s.requestAll m).irq.ifr.getLsbD j = (s.irq.ifr.getLsbD j || m.getLsbD j) ∧
    { s.requestAll m with irq := s.irq } = s ∧ (s.requestAll m).irq.ie = s.irq.ie ∧
    s.request k = s.requestAll (BitVec.ofNat 5 (2 ^ k.index)) ∧
    (s.fault = none → s.halted = false → s.ime = true → s.irq.ie.getLsbD k.index = true →
      (∃ t, step (s.request k) = .next t ∧ t.report = some (.ok 20) ∧ t.ime = false) ∧
      ((∀ i, i < k.index → (pending s).getLsbD i = false) →
        step (s.request k) =
          done 20
            (withPC (BitVec.ofNat 16 (0x40 + 8 * k.index))
              (pushed s.regs.pc
                { s with
                  ime := false
                  imeSched := false
                  irq := { s.irq with ifr := s.irq.ifr &&& ~~~ BitVec.ofNat 5 (2 ^ k.index) } }))))
end

