-- ==== Sys2Proof/Laws/Memory.lean ====
section
/-!
SUPPORT. The laws of one memory array: a read after a write, the canonical form, the size.
-/

namespace Sys2Proof.Machine

variable {d : Byte}

@[simp] theorem Memory.read_nil (i : Nat) : Memory.read d [] i = d := rfl

@[simp] theorem Memory.wf_nil : Memory.wf d [] = true := rfl

@[simp] theorem Memory.within_nil (n : Nat) : Memory.within n [] = true := rfl

theorem Memory.wf_cons (k : Nat) (w : Byte) (m : Memory) :
    Memory.wf d ((k, w) :: m) = true ↔ w ≠ d ∧ (∀ c ∈ m, k < c.1) ∧ Memory.wf d m = true := by
  simp [Memory.wf, and_assoc]

/-- Below every listed index a memory reads as its default. -/
theorem Memory.read_below (m : Memory) (i : Nat) (h : ∀ c ∈ m, i < c.1) : Memory.read d m i = d := by
  induction m with
  | nil => rfl
  | cons c m ih =>
    have hc := h c (by simp)
    have hm := ih fun x hx => h x (by simp [hx])
    simp only [Memory.read]
    rw [if_neg (by omega), hm]

/-- What a write lists: the entries it had, and at most the new one. -/
theorem Memory.mem_write (m : Memory) (i : Nat) (v : Byte) (x : Host.Cell)
    (h : x ∈ Memory.write d m i v) : x ∈ m ∨ x = (i, v) := by
  induction m with
  | nil => simp only [Memory.write] at h; split at h <;> simp_all
  | cons c m ih =>
    obtain ⟨k, w⟩ := c
    simp only [Memory.write] at h
    split at h
    · split at h <;> simp_all; tauto
    · split at h
      · split at h <;> simp_all; tauto
      · rcases List.mem_cons.mp h with rfl | h
        · simp
        · rcases ih h with h | h <;> simp [h]

/-- A write keeps the canonical form. -/
theorem Memory.wf_write (m : Memory) (i : Nat) (v : Byte) (h : Memory.wf d m = true) :
    Memory.wf d (Memory.write d m i v) = true := by
  induction m with
  | nil => simp only [Memory.write]; split <;> simp_all [Memory.wf]
  | cons c m ih =>
    obtain ⟨k, w⟩ := c
    obtain ⟨hw, hk, hm⟩ := (Memory.wf_cons k w m).mp h
    simp only [Memory.write]
    split
    · rename_i hik
      split
      · exact h
      · rename_i hv
        refine (Memory.wf_cons i v _).mpr ⟨hv, ?_, h⟩
        intro x hx
        rcases List.mem_cons.mp hx with rfl | hx
        · exact hik
        · exact Nat.lt_trans hik (hk x hx)
    · split
      · rename_i _ hik
        split
        · exact hm
        · rename_i hv
          exact (Memory.wf_cons i v m).mpr ⟨hv, hik ▸ hk, hm⟩
      · refine (Memory.wf_cons k w _).mpr ⟨hw, ?_, ih hm⟩
        intro x hx
        rcases Memory.mem_write m i v x hx with hx | rfl
        · exact hk x hx
        · show k < i; omega

/-- A read after a write: the byte written at its index, and the old byte everywhere else. -/
theorem Memory.read_write (m : Memory) (i j : Nat) (v : Byte) (h : Memory.wf d m = true) :
    Memory.read d (Memory.write d m i v) j = if j = i then v else Memory.read d m j := by
  induction m with
  | nil =>
    simp only [Memory.write]
    split <;> simp_all [Memory.read, eq_comm]
  | cons c m ih =>
    obtain ⟨k, w⟩ := c
    obtain ⟨hw, hk, hm⟩ := (Memory.wf_cons k w m).mp h
    simp only [Memory.write]
    split
    · rename_i hik
      split
      · rename_i hv
        split
        · rename_i hj
          subst hj hv
          refine Memory.read_below _ _ fun x hx => ?_
          rcases List.mem_cons.mp hx with rfl | hx
          · exact hik
          · exact Nat.lt_trans hik (hk x hx)
        · rfl
      · simp [Memory.read, eq_comm]
    · split
      · rename_i _ hik
        subst hik
        split
        · rename_i hv
          subst hv
          split
          · rename_i hj
            subst hj
            exact Memory.read_below m _ hk
          · rename_i hj
            exact (if_neg fun h => hj h.symm).symm
        · by_cases hj : j = i
          · simp [Memory.read, hj]
          · simp only [Memory.read]
            rw [if_neg fun h => hj h.symm, if_neg hj, if_neg fun h => hj h.symm]
      · rename_i hlt hne
        by_cases hkj : k = j
        · have hji : j ≠ i := by omega
          simp [Memory.read, hkj, hji]
        · simp [Memory.read, hkj, ih hm]

/-- A write leaves every other index, in any memory. -/
theorem Memory.read_write_ne (m : Memory) (i j : Nat) (v : Byte) (h : j ≠ i) :
    Memory.read d (Memory.write d m i v) j = Memory.read d m j := by
  have hij : i ≠ j := fun e => h e.symm
  induction m with
  | nil =>
    simp only [Memory.write]
    split <;> simp [Memory.read, hij]
  | cons c m ih =>
    obtain ⟨k, w⟩ := c
    simp only [Memory.write]
    split
    · split <;> simp [Memory.read, hij]
    · split
      · rename_i _ hik
        subst hik
        split <;> simp [Memory.read, hij]
      · simp [Memory.read, ih]

/-- A write at an index below the size stays within it. -/
theorem Memory.within_write (m : Memory) (n i : Nat) (v : Byte) (h : Memory.within n m = true)
    (hi : i < n) : Memory.within n (Memory.write d m i v) = true := by
  simp only [Memory.within, List.all_eq_true, decide_eq_true_eq] at h ⊢
  intro x hx
  rcases Memory.mem_write m i v x hx with hx | rfl
  · exact h x hx
  · exact hi

/-- Listed bytes are those it had, and at most the new one. -/
theorem Memory.all_write (m : Memory) (i : Nat) (v : Byte) (p : Byte → Bool)
    (h : m.all (fun c => p c.2) = true) (hv : p v = true) :
    (Memory.write d m i v).all (fun c => p c.2) = true := by
  simp only [List.all_eq_true] at h ⊢
  intro x hx
  rcases Memory.mem_write m i v x hx with hx | rfl
  · exact h x hx
  · exact hv

/-- Every entry of a memory made from bytes is one of the bytes, at its place. -/
theorem Memory.mem_ofBytes (bytes : List Byte) (i : Nat) (x : Host.Cell)
    (h : x ∈ Memory.ofBytes d i bytes) : i ≤ x.1 ∧ x.1 < i + bytes.length ∧ x.2 ∈ bytes := by
  induction bytes generalizing i with
  | nil => simp [Memory.ofBytes] at h
  | cons b bytes ih =>
    simp only [Memory.ofBytes] at h
    have key : x ∈ Memory.ofBytes d (i + 1) bytes →
        i ≤ x.1 ∧ x.1 < i + (b :: bytes).length ∧ x.2 ∈ b :: bytes := fun hx => by
      obtain ⟨h1, h2, h3⟩ := ih (i + 1) hx
      exact ⟨by omega, by simp only [List.length_cons]; omega, by simp [h3]⟩
    split at h
    · exact key h
    · rcases List.mem_cons.mp h with rfl | h
      · simp
      · exact key h

/-- A memory made from bytes is in canonical form. -/
theorem Memory.wf_ofBytes (bytes : List Byte) (i : Nat) :
    Memory.wf d (Memory.ofBytes d i bytes) = true := by
  induction bytes generalizing i with
  | nil => rfl
  | cons b bytes ih =>
    simp only [Memory.ofBytes]
    split
    · exact ih (i + 1)
    · rename_i hb
      refine (Memory.wf_cons i b _).mpr ⟨hb, fun x hx => ?_, ih (i + 1)⟩
      have := (Memory.mem_ofBytes bytes (i + 1) x hx).1
      omega

/-- A memory made from bytes from index 0 on is within their number. -/
theorem Memory.within_ofBytes (bytes : List Byte) (n : Nat) (h : bytes.length ≤ n) :
    Memory.within n (Memory.ofBytes d 0 bytes) = true := by
  simp only [Memory.within, List.all_eq_true, decide_eq_true_eq]
  intro x hx
  have := (Memory.mem_ofBytes bytes 0 x hx).2.1
  omega

/-- A memory made from bytes reads as them, and as its default past their end. -/
theorem Memory.read_ofBytes (bytes : List Byte) (i j : Nat) :
    Memory.read d (Memory.ofBytes d i bytes) (i + j) = bytes.getD j d := by
  induction bytes generalizing i j with
  | nil => simp [Memory.ofBytes]
  | cons b bytes ih =>
    simp only [Memory.ofBytes]
    cases j with
    | zero =>
      split
      · rename_i hb
        rw [Memory.read_below]
        · simp [hb]
        · intro x hx
          have := (Memory.mem_ofBytes bytes (i + 1) x hx).1
          omega
      · simp [Memory.read]
    | succ j =>
      have key := ih (i + 1) j
      rw [show i + 1 + j = i + (j + 1) by omega] at key
      split
      · simpa using key
      · simp only [Memory.read]
        rw [if_neg (by omega), key]
        simp

/-- Bytes that all equal the default list nothing. -/
theorem Memory.ofBytes_replicate (n i : Nat) : Memory.ofBytes d i (List.replicate n d) = [] := by
  induction n generalizing i with
  | zero => rfl
  | succ n ih => simp [List.replicate_succ, Memory.ofBytes, ih]

end Sys2Proof.Machine
end

