-- ==== Sys2Proof/Laws/State.lean ====
section
/-!
SUPPORT. One lemma per field per update: what each named update of the state leaves, so that no later proof
unfolds a record update. Those of the pure updates hold by definition.
-/

namespace Sys2Proof.Machine

/-! ### Registers -/

@[simp] theorem State.setPc_regs_a (s : State) (pc : Word) : (s.setPc pc).regs.a = s.regs.a := rfl
@[simp] theorem State.setPc_regs_f (s : State) (pc : Word) : (s.setPc pc).regs.f = s.regs.f := rfl
@[simp] theorem State.setPc_regs_b (s : State) (pc : Word) : (s.setPc pc).regs.b = s.regs.b := rfl
@[simp] theorem State.setPc_regs_c (s : State) (pc : Word) : (s.setPc pc).regs.c = s.regs.c := rfl
@[simp] theorem State.setPc_regs_d (s : State) (pc : Word) : (s.setPc pc).regs.d = s.regs.d := rfl
@[simp] theorem State.setPc_regs_e (s : State) (pc : Word) : (s.setPc pc).regs.e = s.regs.e := rfl
@[simp] theorem State.setPc_regs_h (s : State) (pc : Word) : (s.setPc pc).regs.h = s.regs.h := rfl
@[simp] theorem State.setPc_regs_l (s : State) (pc : Word) : (s.setPc pc).regs.l = s.regs.l := rfl
@[simp] theorem State.setPc_regs_sp (s : State) (pc : Word) : (s.setPc pc).regs.sp = s.regs.sp := rfl
@[simp] theorem State.setPc_regs_pc (s : State) (pc : Word) : (s.setPc pc).regs.pc = pc := rfl
@[simp] theorem State.setPc_ime (s : State) (pc : Word) : (s.setPc pc).ime = s.ime := rfl
@[simp] theorem State.setPc_imeSched (s : State) (pc : Word) : (s.setPc pc).imeSched = s.imeSched := rfl
@[simp] theorem State.setPc_halted (s : State) (pc : Word) : (s.setPc pc).halted = s.halted := rfl
@[simp] theorem State.setPc_fault (s : State) (pc : Word) : (s.setPc pc).fault = s.fault := rfl
@[simp] theorem State.setPc_irq (s : State) (pc : Word) : (s.setPc pc).irq = s.irq := rfl
@[simp] theorem State.setPc_bus (s : State) (pc : Word) : (s.setPc pc).bus = s.bus := rfl
@[simp] theorem State.setPc_cart (s : State) (pc : Word) : (s.setPc pc).cart = s.cart := rfl
@[simp] theorem State.setPc_report (s : State) (pc : Word) : (s.setPc pc).report = s.report := rfl

@[simp] theorem State.setSp_regs_a (s : State) (sp : Word) : (s.setSp sp).regs.a = s.regs.a := rfl
@[simp] theorem State.setSp_regs_f (s : State) (sp : Word) : (s.setSp sp).regs.f = s.regs.f := rfl
@[simp] theorem State.setSp_regs_b (s : State) (sp : Word) : (s.setSp sp).regs.b = s.regs.b := rfl
@[simp] theorem State.setSp_regs_c (s : State) (sp : Word) : (s.setSp sp).regs.c = s.regs.c := rfl
@[simp] theorem State.setSp_regs_d (s : State) (sp : Word) : (s.setSp sp).regs.d = s.regs.d := rfl
@[simp] theorem State.setSp_regs_e (s : State) (sp : Word) : (s.setSp sp).regs.e = s.regs.e := rfl
@[simp] theorem State.setSp_regs_h (s : State) (sp : Word) : (s.setSp sp).regs.h = s.regs.h := rfl
@[simp] theorem State.setSp_regs_l (s : State) (sp : Word) : (s.setSp sp).regs.l = s.regs.l := rfl
@[simp] theorem State.setSp_regs_sp (s : State) (sp : Word) : (s.setSp sp).regs.sp = sp := rfl
@[simp] theorem State.setSp_regs_pc (s : State) (sp : Word) : (s.setSp sp).regs.pc = s.regs.pc := rfl
@[simp] theorem State.setSp_ime (s : State) (sp : Word) : (s.setSp sp).ime = s.ime := rfl
@[simp] theorem State.setSp_imeSched (s : State) (sp : Word) : (s.setSp sp).imeSched = s.imeSched := rfl
@[simp] theorem State.setSp_halted (s : State) (sp : Word) : (s.setSp sp).halted = s.halted := rfl
@[simp] theorem State.setSp_fault (s : State) (sp : Word) : (s.setSp sp).fault = s.fault := rfl
@[simp] theorem State.setSp_irq (s : State) (sp : Word) : (s.setSp sp).irq = s.irq := rfl
@[simp] theorem State.setSp_bus (s : State) (sp : Word) : (s.setSp sp).bus = s.bus := rfl
@[simp] theorem State.setSp_cart (s : State) (sp : Word) : (s.setSp sp).cart = s.cart := rfl
@[simp] theorem State.setSp_report (s : State) (sp : Word) : (s.setSp sp).report = s.report := rfl

@[simp] theorem State.setR_regs (s : State) (r : R8) (v : Byte) : (s.setR r v).regs = s.regs.set8 (regOf r) v := rfl
@[simp] theorem State.setR_ime (s : State) (r : R8) (v : Byte) : (s.setR r v).ime = s.ime := rfl
@[simp] theorem State.setR_imeSched (s : State) (r : R8) (v : Byte) : (s.setR r v).imeSched = s.imeSched := rfl
@[simp] theorem State.setR_halted (s : State) (r : R8) (v : Byte) : (s.setR r v).halted = s.halted := rfl
@[simp] theorem State.setR_fault (s : State) (r : R8) (v : Byte) : (s.setR r v).fault = s.fault := rfl
@[simp] theorem State.setR_irq (s : State) (r : R8) (v : Byte) : (s.setR r v).irq = s.irq := rfl
@[simp] theorem State.setR_bus (s : State) (r : R8) (v : Byte) : (s.setR r v).bus = s.bus := rfl
@[simp] theorem State.setR_cart (s : State) (r : R8) (v : Byte) : (s.setR r v).cart = s.cart := rfl
@[simp] theorem State.setR_report (s : State) (r : R8) (v : Byte) : (s.setR r v).report = s.report := rfl

@[simp] theorem State.set16_regs (s : State) (x : Reg16) (v : Word) : (s.set16 x v).regs = s.regs.set16 x v := rfl
@[simp] theorem State.set16_ime (s : State) (x : Reg16) (v : Word) : (s.set16 x v).ime = s.ime := rfl
@[simp] theorem State.set16_imeSched (s : State) (x : Reg16) (v : Word) : (s.set16 x v).imeSched = s.imeSched := rfl
@[simp] theorem State.set16_halted (s : State) (x : Reg16) (v : Word) : (s.set16 x v).halted = s.halted := rfl
@[simp] theorem State.set16_fault (s : State) (x : Reg16) (v : Word) : (s.set16 x v).fault = s.fault := rfl
@[simp] theorem State.set16_irq (s : State) (x : Reg16) (v : Word) : (s.set16 x v).irq = s.irq := rfl
@[simp] theorem State.set16_bus (s : State) (x : Reg16) (v : Word) : (s.set16 x v).bus = s.bus := rfl
@[simp] theorem State.set16_cart (s : State) (x : Reg16) (v : Word) : (s.set16 x v).cart = s.cart := rfl
@[simp] theorem State.set16_report (s : State) (x : Reg16) (v : Word) : (s.set16 x v).report = s.report := rfl

@[simp] theorem State.setFlags_regs (s : State) (fl : Flags) : (s.setFlags fl).regs = s.regs.setFlags fl := rfl
@[simp] theorem State.setFlags_ime (s : State) (fl : Flags) : (s.setFlags fl).ime = s.ime := rfl
@[simp] theorem State.setFlags_imeSched (s : State) (fl : Flags) : (s.setFlags fl).imeSched = s.imeSched := rfl
@[simp] theorem State.setFlags_halted (s : State) (fl : Flags) : (s.setFlags fl).halted = s.halted := rfl
@[simp] theorem State.setFlags_fault (s : State) (fl : Flags) : (s.setFlags fl).fault = s.fault := rfl
@[simp] theorem State.setFlags_irq (s : State) (fl : Flags) : (s.setFlags fl).irq = s.irq := rfl
@[simp] theorem State.setFlags_bus (s : State) (fl : Flags) : (s.setFlags fl).bus = s.bus := rfl
@[simp] theorem State.setFlags_cart (s : State) (fl : Flags) : (s.setFlags fl).cart = s.cart := rfl
@[simp] theorem State.setFlags_report (s : State) (fl : Flags) : (s.setFlags fl).report = s.report := rfl

/-! ### Events, cells, mapper registers -/

@[simp] theorem logEvent_regs (ev : BusEvent) (s : State) : (logEvent ev s).regs = s.regs := rfl
@[simp] theorem logEvent_ime (ev : BusEvent) (s : State) : (logEvent ev s).ime = s.ime := rfl
@[simp] theorem logEvent_imeSched (ev : BusEvent) (s : State) : (logEvent ev s).imeSched = s.imeSched := rfl
@[simp] theorem logEvent_halted (ev : BusEvent) (s : State) : (logEvent ev s).halted = s.halted := rfl
@[simp] theorem logEvent_fault (ev : BusEvent) (s : State) : (logEvent ev s).fault = s.fault := rfl
@[simp] theorem logEvent_irq (ev : BusEvent) (s : State) : (logEvent ev s).irq = s.irq := rfl
@[simp] theorem logEvent_report (ev : BusEvent) (s : State) : (logEvent ev s).report = s.report := rfl
@[simp] theorem logEvent_cart (ev : BusEvent) (s : State) : (logEvent ev s).cart = s.cart := rfl
@[simp] theorem logEvent_bus_vram (ev : BusEvent) (s : State) : (logEvent ev s).bus.vram = s.bus.vram := rfl
@[simp] theorem logEvent_bus_wram (ev : BusEvent) (s : State) : (logEvent ev s).bus.wram = s.bus.wram := rfl
@[simp] theorem logEvent_bus_oam (ev : BusEvent) (s : State) : (logEvent ev s).bus.oam = s.bus.oam := rfl
@[simp] theorem logEvent_bus_hram (ev : BusEvent) (s : State) : (logEvent ev s).bus.hram = s.bus.hram := rfl
@[simp] theorem logEvent_bus_boot (ev : BusEvent) (s : State) : (logEvent ev s).bus.boot = s.bus.boot := rfl
@[simp] theorem logEvent_bus_bootMapped (ev : BusEvent) (s : State) : (logEvent ev s).bus.bootMapped = s.bus.bootMapped := rfl
@[simp] theorem logEvent_bus_events (ev : BusEvent) (s : State) :
    (logEvent ev s).bus.events = ev :: s.bus.events := rfl

@[simp] theorem writeRom_regs (a : Word) (v : Byte) (s : State) : (writeRom a v s).regs = s.regs := rfl
@[simp] theorem writeRom_ime (a : Word) (v : Byte) (s : State) : (writeRom a v s).ime = s.ime := rfl
@[simp] theorem writeRom_imeSched (a : Word) (v : Byte) (s : State) : (writeRom a v s).imeSched = s.imeSched := rfl
@[simp] theorem writeRom_halted (a : Word) (v : Byte) (s : State) : (writeRom a v s).halted = s.halted := rfl
@[simp] theorem writeRom_fault (a : Word) (v : Byte) (s : State) : (writeRom a v s).fault = s.fault := rfl
@[simp] theorem writeRom_irq (a : Word) (v : Byte) (s : State) : (writeRom a v s).irq = s.irq := rfl
@[simp] theorem writeRom_report (a : Word) (v : Byte) (s : State) : (writeRom a v s).report = s.report := rfl
@[simp] theorem writeRom_bus_vram (a : Word) (v : Byte) (s : State) : (writeRom a v s).bus.vram = s.bus.vram := rfl
@[simp] theorem writeRom_bus_wram (a : Word) (v : Byte) (s : State) : (writeRom a v s).bus.wram = s.bus.wram := rfl
@[simp] theorem writeRom_bus_oam (a : Word) (v : Byte) (s : State) : (writeRom a v s).bus.oam = s.bus.oam := rfl
@[simp] theorem writeRom_bus_hram (a : Word) (v : Byte) (s : State) : (writeRom a v s).bus.hram = s.bus.hram := rfl
@[simp] theorem writeRom_bus_boot (a : Word) (v : Byte) (s : State) : (writeRom a v s).bus.boot = s.bus.boot := rfl
@[simp] theorem writeRom_bus_bootMapped (a : Word) (v : Byte) (s : State) : (writeRom a v s).bus.bootMapped = s.bus.bootMapped := rfl
@[simp] theorem writeRom_cart_rom (a : Word) (v : Byte) (s : State) : (writeRom a v s).cart.rom = s.cart.rom := rfl
@[simp] theorem writeRom_cart_romLen (a : Word) (v : Byte) (s : State) : (writeRom a v s).cart.romLen = s.cart.romLen := rfl
@[simp] theorem writeRom_cart_romBanks (a : Word) (v : Byte) (s : State) : (writeRom a v s).cart.romBanks = s.cart.romBanks := rfl
@[simp] theorem writeRom_cart_ramSize (a : Word) (v : Byte) (s : State) : (writeRom a v s).cart.ramSize = s.cart.ramSize := rfl
@[simp] theorem writeRom_cart_ram (a : Word) (v : Byte) (s : State) : (writeRom a v s).cart.ram = s.cart.ram := rfl
@[simp] theorem writeRom_cart_mapper (a : Word) (v : Byte) (s : State) :
    (writeRom a v s).cart.mapper = s.cart.mapper.writeRom a v := rfl
@[simp] theorem writeRom_bus_events (a : Word) (v : Byte) (s : State) :
    (writeRom a v s).bus.events = s.cart.mapper.writeRomEvents a v ++ s.bus.events := rfl

@[simp] theorem Cartridge.writeRamCell_rom (c : Cartridge) (i : Nat) (v : Byte) :
    (c.writeRamCell i v).rom = c.rom := by
  unfold Cartridge.writeRamCell; split <;> rfl
@[simp] theorem Cartridge.writeRamCell_romLen (c : Cartridge) (i : Nat) (v : Byte) :
    (c.writeRamCell i v).romLen = c.romLen := by
  unfold Cartridge.writeRamCell; split <;> rfl
@[simp] theorem Cartridge.writeRamCell_romBanks (c : Cartridge) (i : Nat) (v : Byte) :
    (c.writeRamCell i v).romBanks = c.romBanks := by
  unfold Cartridge.writeRamCell; split <;> rfl
@[simp] theorem Cartridge.writeRamCell_ramSize (c : Cartridge) (i : Nat) (v : Byte) :
    (c.writeRamCell i v).ramSize = c.ramSize := by
  unfold Cartridge.writeRamCell; split <;> rfl
@[simp] theorem Cartridge.writeRamCell_mapper (c : Cartridge) (i : Nat) (v : Byte) :
    (c.writeRamCell i v).mapper = c.mapper := by
  unfold Cartridge.writeRamCell; split <;> rfl

@[simp] theorem writeCell_regs (c : CellId) (v : Byte) (s : State) :
    (writeCell c v s).regs = s.regs := by cases c <;> simp [writeCell]
@[simp] theorem writeCell_ime (c : CellId) (v : Byte) (s : State) :
    (writeCell c v s).ime = s.ime := by cases c <;> simp [writeCell]
@[simp] theorem writeCell_imeSched (c : CellId) (v : Byte) (s : State) :
    (writeCell c v s).imeSched = s.imeSched := by cases c <;> simp [writeCell]
@[simp] theorem writeCell_halted (c : CellId) (v : Byte) (s : State) :
    (writeCell c v s).halted = s.halted := by cases c <;> simp [writeCell]
@[simp] theorem writeCell_fault (c : CellId) (v : Byte) (s : State) :
    (writeCell c v s).fault = s.fault := by cases c <;> simp [writeCell]
@[simp] theorem writeCell_irq (c : CellId) (v : Byte) (s : State) :
    (writeCell c v s).irq = s.irq := by cases c <;> simp [writeCell]
@[simp] theorem writeCell_report (c : CellId) (v : Byte) (s : State) :
    (writeCell c v s).report = s.report := by cases c <;> simp [writeCell]
@[simp] theorem writeCell_bus_boot (c : CellId) (v : Byte) (s : State) :
    (writeCell c v s).bus.boot = s.bus.boot := by cases c <;> simp [writeCell]
@[simp] theorem writeCell_bus_bootMapped (c : CellId) (v : Byte) (s : State) :
    (writeCell c v s).bus.bootMapped = s.bus.bootMapped := by cases c <;> simp [writeCell]
@[simp] theorem writeCell_bus_events (c : CellId) (v : Byte) (s : State) :
    (writeCell c v s).bus.events = s.bus.events := by cases c <;> simp [writeCell]
@[simp] theorem writeCell_cart_rom (c : CellId) (v : Byte) (s : State) :
    (writeCell c v s).cart.rom = s.cart.rom := by cases c <;> simp [writeCell]
@[simp] theorem writeCell_cart_romLen (c : CellId) (v : Byte) (s : State) :
    (writeCell c v s).cart.romLen = s.cart.romLen := by cases c <;> simp [writeCell]
@[simp] theorem writeCell_cart_romBanks (c : CellId) (v : Byte) (s : State) :
    (writeCell c v s).cart.romBanks = s.cart.romBanks := by cases c <;> simp [writeCell]
@[simp] theorem writeCell_cart_ramSize (c : CellId) (v : Byte) (s : State) :
    (writeCell c v s).cart.ramSize = s.cart.ramSize := by cases c <;> simp [writeCell]
@[simp] theorem writeCell_cart_mapper (c : CellId) (v : Byte) (s : State) :
    (writeCell c v s).cart.mapper = s.cart.mapper := by cases c <;> simp [writeCell]

/-! ### The bus -/

@[simp] theorem memWrite_regs (a : Word) (v : Byte) (s : State) :
    (memWrite a v s).regs = s.regs := by unfold memWrite; split <;> simp; split <;> simp
@[simp] theorem memWrite_ime (a : Word) (v : Byte) (s : State) :
    (memWrite a v s).ime = s.ime := by unfold memWrite; split <;> simp; split <;> simp
@[simp] theorem memWrite_imeSched (a : Word) (v : Byte) (s : State) :
    (memWrite a v s).imeSched = s.imeSched := by unfold memWrite; split <;> simp; split <;> simp
@[simp] theorem memWrite_halted (a : Word) (v : Byte) (s : State) :
    (memWrite a v s).halted = s.halted := by unfold memWrite; split <;> simp; split <;> simp
@[simp] theorem memWrite_fault (a : Word) (v : Byte) (s : State) :
    (memWrite a v s).fault = s.fault := by unfold memWrite; split <;> simp; split <;> simp
@[simp] theorem memWrite_report (a : Word) (v : Byte) (s : State) :
    (memWrite a v s).report = s.report := by unfold memWrite; split <;> simp; split <;> simp
@[simp] theorem memWrite_bus_boot (a : Word) (v : Byte) (s : State) :
    (memWrite a v s).bus.boot = s.bus.boot := by unfold memWrite; split <;> simp; split <;> simp
@[simp] theorem memWrite_cart_rom (a : Word) (v : Byte) (s : State) :
    (memWrite a v s).cart.rom = s.cart.rom := by unfold memWrite; split <;> simp; split <;> simp
@[simp] theorem memWrite_cart_romLen (a : Word) (v : Byte) (s : State) :
    (memWrite a v s).cart.romLen = s.cart.romLen := by unfold memWrite; split <;> simp; split <;> simp
@[simp] theorem memWrite_cart_romBanks (a : Word) (v : Byte) (s : State) :
    (memWrite a v s).cart.romBanks = s.cart.romBanks := by unfold memWrite; split <;> simp; split <;> simp
@[simp] theorem memWrite_cart_ramSize (a : Word) (v : Byte) (s : State) :
    (memWrite a v s).cart.ramSize = s.cart.ramSize := by unfold memWrite; split <;> simp; split <;> simp

@[simp] theorem afterRead_regs (a : Word) (s : State) :
    (afterRead a s).regs = s.regs := by unfold afterRead; split <;> simp
@[simp] theorem afterRead_ime (a : Word) (s : State) :
    (afterRead a s).ime = s.ime := by unfold afterRead; split <;> simp
@[simp] theorem afterRead_imeSched (a : Word) (s : State) :
    (afterRead a s).imeSched = s.imeSched := by unfold afterRead; split <;> simp
@[simp] theorem afterRead_halted (a : Word) (s : State) :
    (afterRead a s).halted = s.halted := by unfold afterRead; split <;> simp
@[simp] theorem afterRead_fault (a : Word) (s : State) :
    (afterRead a s).fault = s.fault := by unfold afterRead; split <;> simp
@[simp] theorem afterRead_irq (a : Word) (s : State) :
    (afterRead a s).irq = s.irq := by unfold afterRead; split <;> simp
@[simp] theorem afterRead_report (a : Word) (s : State) :
    (afterRead a s).report = s.report := by unfold afterRead; split <;> simp
@[simp] theorem afterRead_cart (a : Word) (s : State) :
    (afterRead a s).cart = s.cart := by unfold afterRead; split <;> simp
@[simp] theorem afterRead_bus_vram (a : Word) (s : State) :
    (afterRead a s).bus.vram = s.bus.vram := by unfold afterRead; split <;> simp
@[simp] theorem afterRead_bus_wram (a : Word) (s : State) :
    (afterRead a s).bus.wram = s.bus.wram := by unfold afterRead; split <;> simp
@[simp] theorem afterRead_bus_oam (a : Word) (s : State) :
    (afterRead a s).bus.oam = s.bus.oam := by unfold afterRead; split <;> simp
@[simp] theorem afterRead_bus_hram (a : Word) (s : State) :
    (afterRead a s).bus.hram = s.bus.hram := by unfold afterRead; split <;> simp
@[simp] theorem afterRead_bus_boot (a : Word) (s : State) :
    (afterRead a s).bus.boot = s.bus.boot := by unfold afterRead; split <;> simp
@[simp] theorem afterRead_bus_bootMapped (a : Word) (s : State) :
    (afterRead a s).bus.bootMapped = s.bus.bootMapped := by unfold afterRead; split <;> simp

/-! ### Fetching and the stack -/

@[simp] theorem fetch8_ime (s : State) :
    ((fetch8 s).2).ime = s.ime := by simp [fetch8]
@[simp] theorem fetch8_imeSched (s : State) :
    ((fetch8 s).2).imeSched = s.imeSched := by simp [fetch8]
@[simp] theorem fetch8_halted (s : State) :
    ((fetch8 s).2).halted = s.halted := by simp [fetch8]
@[simp] theorem fetch8_fault (s : State) :
    ((fetch8 s).2).fault = s.fault := by simp [fetch8]
@[simp] theorem fetch8_irq (s : State) :
    ((fetch8 s).2).irq = s.irq := by simp [fetch8]
@[simp] theorem fetch8_cart (s : State) :
    ((fetch8 s).2).cart = s.cart := by simp [fetch8]
@[simp] theorem fetch8_report (s : State) :
    ((fetch8 s).2).report = s.report := by simp [fetch8]
@[simp] theorem fetch8_bus_boot (s : State) :
    ((fetch8 s).2).bus.boot = s.bus.boot := by simp [fetch8]
@[simp] theorem fetch8_bus_bootMapped (s : State) :
    ((fetch8 s).2).bus.bootMapped = s.bus.bootMapped := by simp [fetch8]
@[simp] theorem fetch8_regs_a (s : State) : (fetch8 s).2.regs.a = s.regs.a := by simp [fetch8]
@[simp] theorem fetch8_regs_f (s : State) : (fetch8 s).2.regs.f = s.regs.f := by simp [fetch8]
@[simp] theorem fetch8_regs_b (s : State) : (fetch8 s).2.regs.b = s.regs.b := by simp [fetch8]
@[simp] theorem fetch8_regs_c (s : State) : (fetch8 s).2.regs.c = s.regs.c := by simp [fetch8]
@[simp] theorem fetch8_regs_d (s : State) : (fetch8 s).2.regs.d = s.regs.d := by simp [fetch8]
@[simp] theorem fetch8_regs_e (s : State) : (fetch8 s).2.regs.e = s.regs.e := by simp [fetch8]
@[simp] theorem fetch8_regs_h (s : State) : (fetch8 s).2.regs.h = s.regs.h := by simp [fetch8]
@[simp] theorem fetch8_regs_l (s : State) : (fetch8 s).2.regs.l = s.regs.l := by simp [fetch8]
@[simp] theorem fetch8_regs_sp (s : State) : (fetch8 s).2.regs.sp = s.regs.sp := by simp [fetch8]
@[simp] theorem fetch8_regs_pc (s : State) : (fetch8 s).2.regs.pc = s.regs.pc + 1 := by simp [fetch8]

@[simp] theorem pop16_ime (s : State) :
    ((pop16 s).2).ime = s.ime := by simp [pop16, pop8]
@[simp] theorem pop16_imeSched (s : State) :
    ((pop16 s).2).imeSched = s.imeSched := by simp [pop16, pop8]
@[simp] theorem pop16_halted (s : State) :
    ((pop16 s).2).halted = s.halted := by simp [pop16, pop8]
@[simp] theorem pop16_fault (s : State) :
    ((pop16 s).2).fault = s.fault := by simp [pop16, pop8]
@[simp] theorem pop16_irq (s : State) :
    ((pop16 s).2).irq = s.irq := by simp [pop16, pop8]
@[simp] theorem pop16_cart (s : State) :
    ((pop16 s).2).cart = s.cart := by simp [pop16, pop8]
@[simp] theorem pop16_report (s : State) :
    ((pop16 s).2).report = s.report := by simp [pop16, pop8]
@[simp] theorem pop16_bus_boot (s : State) :
    ((pop16 s).2).bus.boot = s.bus.boot := by simp [pop16, pop8]
@[simp] theorem pop16_bus_bootMapped (s : State) :
    ((pop16 s).2).bus.bootMapped = s.bus.bootMapped := by simp [pop16, pop8]
@[simp] theorem pop16_regs_a (s : State) : (pop16 s).2.regs.a = s.regs.a := by
  simp [pop16, pop8]
@[simp] theorem pop16_regs_f (s : State) : (pop16 s).2.regs.f = s.regs.f := by
  simp [pop16, pop8]
@[simp] theorem pop16_regs_b (s : State) : (pop16 s).2.regs.b = s.regs.b := by
  simp [pop16, pop8]
@[simp] theorem pop16_regs_c (s : State) : (pop16 s).2.regs.c = s.regs.c := by
  simp [pop16, pop8]
@[simp] theorem pop16_regs_d (s : State) : (pop16 s).2.regs.d = s.regs.d := by
  simp [pop16, pop8]
@[simp] theorem pop16_regs_e (s : State) : (pop16 s).2.regs.e = s.regs.e := by
  simp [pop16, pop8]
@[simp] theorem pop16_regs_h (s : State) : (pop16 s).2.regs.h = s.regs.h := by
  simp [pop16, pop8]
@[simp] theorem pop16_regs_l (s : State) : (pop16 s).2.regs.l = s.regs.l := by
  simp [pop16, pop8]
@[simp] theorem pop16_regs_sp (s : State) : (pop16 s).2.regs.sp = s.regs.sp + 2 := by
  simp [pop16, pop8, BitVec.add_assoc]
@[simp] theorem pop16_regs_pc (s : State) : (pop16 s).2.regs.pc = s.regs.pc := by
  simp [pop16, pop8]

@[simp] theorem push16_ime (v : Word) (s : State) :
    (push16 v s).ime = s.ime := by simp [push16, push8]
@[simp] theorem push16_imeSched (v : Word) (s : State) :
    (push16 v s).imeSched = s.imeSched := by simp [push16, push8]
@[simp] theorem push16_halted (v : Word) (s : State) :
    (push16 v s).halted = s.halted := by simp [push16, push8]
@[simp] theorem push16_fault (v : Word) (s : State) :
    (push16 v s).fault = s.fault := by simp [push16, push8]
@[simp] theorem push16_report (v : Word) (s : State) :
    (push16 v s).report = s.report := by simp [push16, push8]
@[simp] theorem push16_bus_boot (v : Word) (s : State) :
    (push16 v s).bus.boot = s.bus.boot := by simp [push16, push8]
@[simp] theorem push16_cart_rom (v : Word) (s : State) :
    (push16 v s).cart.rom = s.cart.rom := by simp [push16, push8]
@[simp] theorem push16_cart_romLen (v : Word) (s : State) :
    (push16 v s).cart.romLen = s.cart.romLen := by simp [push16, push8]
@[simp] theorem push16_cart_romBanks (v : Word) (s : State) :
    (push16 v s).cart.romBanks = s.cart.romBanks := by simp [push16, push8]
@[simp] theorem push16_cart_ramSize (v : Word) (s : State) :
    (push16 v s).cart.ramSize = s.cart.ramSize := by simp [push16, push8]
@[simp] theorem push16_regs_a (v : Word) (s : State) : (push16 v s).regs.a = s.regs.a := by
  simp [push16, push8]
@[simp] theorem push16_regs_f (v : Word) (s : State) : (push16 v s).regs.f = s.regs.f := by
  simp [push16, push8]
@[simp] theorem push16_regs_b (v : Word) (s : State) : (push16 v s).regs.b = s.regs.b := by
  simp [push16, push8]
@[simp] theorem push16_regs_c (v : Word) (s : State) : (push16 v s).regs.c = s.regs.c := by
  simp [push16, push8]
@[simp] theorem push16_regs_d (v : Word) (s : State) : (push16 v s).regs.d = s.regs.d := by
  simp [push16, push8]
@[simp] theorem push16_regs_e (v : Word) (s : State) : (push16 v s).regs.e = s.regs.e := by
  simp [push16, push8]
@[simp] theorem push16_regs_h (v : Word) (s : State) : (push16 v s).regs.h = s.regs.h := by
  simp [push16, push8]
@[simp] theorem push16_regs_l (v : Word) (s : State) : (push16 v s).regs.l = s.regs.l := by
  simp [push16, push8]
@[simp] theorem push16_regs_sp (v : Word) (s : State) : (push16 v s).regs.sp = s.regs.sp - 2 := by
  simp [push16, push8, BitVec.sub_sub]
@[simp] theorem push16_regs_pc (v : Word) (s : State) : (push16 v s).regs.pc = s.regs.pc := by
  simp [push16, push8]

/-! ### The IME commit -/

@[simp] theorem commitIme_regs (sched : Bool) (s : State) :
    (commitIme sched s).regs = s.regs := by unfold commitIme; split <;> rfl
@[simp] theorem commitIme_halted (sched : Bool) (s : State) :
    (commitIme sched s).halted = s.halted := by unfold commitIme; split <;> rfl
@[simp] theorem commitIme_fault (sched : Bool) (s : State) :
    (commitIme sched s).fault = s.fault := by unfold commitIme; split <;> rfl
@[simp] theorem commitIme_irq (sched : Bool) (s : State) :
    (commitIme sched s).irq = s.irq := by unfold commitIme; split <;> rfl
@[simp] theorem commitIme_bus (sched : Bool) (s : State) :
    (commitIme sched s).bus = s.bus := by unfold commitIme; split <;> rfl
@[simp] theorem commitIme_cart (sched : Bool) (s : State) :
    (commitIme sched s).cart = s.cart := by unfold commitIme; split <;> rfl
@[simp] theorem commitIme_report (sched : Bool) (s : State) :
    (commitIme sched s).report = s.report := by unfold commitIme; split <;> rfl

end Sys2Proof.Machine
end

