-- ==== Sys2Proof/Laws/Bus.lean ====
section
/-!
SUPPORT. The laws of the bus: which array each address reaches, the canonical form of every memory through
every operation, and the one predicate `Keeps` for what reads, stores, pushes, pops and register writes never
change.
-/

namespace Sys2Proof.Machine

/-! ### The address decoder -/

/-- The addresses of a row of the memory map (R62). -/
def Region.holds (r : Region) (n : Nat) : Prop :=
  match r with
  | .lowRom => n < 0x100
  | .rom => 0x100 ≤ n ∧ n < 0x8000
  | .vram => 0x8000 ≤ n ∧ n < 0xA000
  | .cartRam => 0xA000 ≤ n ∧ n < 0xC000
  | .wram => 0xC000 ≤ n ∧ n < 0xE000
  | .echo => 0xE000 ≤ n ∧ n < 0xFE00
  | .oam => 0xFE00 ≤ n ∧ n < 0xFEA0
  | .unusable => 0xFEA0 ≤ n ∧ n < 0xFF00
  | .io => 0xFF00 ≤ n ∧ n < 0xFF80 ∧ n ≠ 0xFF0F ∧ n ≠ 0xFF50
  | .ifReg => n = 0xFF0F
  | .unmapReg => n = 0xFF50
  | .hram => 0xFF80 ≤ n ∧ n < 0xFFFF
  | .ieReg => n = 0xFFFF

theorem Region.holds_ite (p : Prop) [Decidable p] (r q : Region) (n : Nat) (h : p → r.holds n)
    (k : ¬ p → q.holds n) : (if p then r else q).holds n := by
  by_cases hp : p
  · rw [if_pos hp]; exact h hp
  · rw [if_neg hp]; exact k hp

/-- An address lies in the row the decoder gives it. -/
theorem region_holds (a : Word) : (region a).holds a.toNat := by
  have h := a.isLt
  unfold region
  iterate 12 (apply Region.holds_ite <;> intro _; rotate_left 1)
  all_goals simp only [Region.holds]
  all_goals omega

/-- No address lies in two rows (R61). -/
theorem Region.holds_unique (r q : Region) (n : Nat) (h : r.holds n) (k : q.holds n) : r = q := by
  cases r <;> cases q <;> first | rfl | (simp only [Region.holds] at h k; omega)

/-- The row of an address is the one whose range it lies in (R62). -/
theorem region_eq {a : Word} {r : Region} (h : r.holds a.toNat) : region a = r :=
  Region.holds_unique _ _ _ (region_holds a) h

/-- What an access reaches, by region: the cases of `target`, with the ranges. -/
theorem target_cases (a : Word) (s : State) :
    (target a s = .boot ∧ a.toNat < 0x100 ∧ s.bus.bootMapped = true) ∨
    (target a s = .lowRom ∧ a.toNat < 0x100 ∧ s.bus.bootMapped = false) ∨
    (target a s = .rom ∧ 0x100 ≤ a.toNat ∧ a.toNat < 0x8000) ∨
    (target a s = .cell (.vram (a.toNat - 0x8000)) ∧ 0x8000 ≤ a.toNat ∧ a.toNat < 0xA000) ∨
    (target a s = cartRamTarget (s.cart.ramTarget a) ∧ 0xA000 ≤ a.toNat ∧ a.toNat < 0xC000) ∨
    (target a s = .cell (.wram (a.toNat - 0xC000)) ∧ 0xC000 ≤ a.toNat ∧ a.toNat < 0xE000) ∨
    (target a s = .cell (.wram (a.toNat - 0xE000)) ∧ 0xE000 ≤ a.toNat ∧ a.toNat < 0xFE00) ∨
    (target a s = .cell (.oam (a.toNat - 0xFE00)) ∧ 0xFE00 ≤ a.toNat ∧ a.toNat < 0xFEA0) ∨
    (target a s = .unusable ∧ 0xFEA0 ≤ a.toNat ∧ a.toNat < 0xFF00) ∨
    (target a s = .io ∧ 0xFF00 ≤ a.toNat ∧ a.toNat < 0xFF80 ∧ a.toNat ≠ 0xFF0F ∧
      a.toNat ≠ 0xFF50) ∨
    (target a s = .ifReg ∧ a.toNat = 0xFF0F) ∨
    (target a s = .unmapReg ∧ a.toNat = 0xFF50) ∨
    (target a s = .cell (.hram (a.toNat - 0xFF80)) ∧ 0xFF80 ≤ a.toNat ∧ a.toNat < 0xFFFF) ∨
    (target a s = .ieReg ∧ a.toNat = 0xFFFF) := by
  have h := region_holds a
  unfold target
  generalize region a = r at h
  cases r <;> simp only [Region.holds] at h ⊢
  · cases hb : s.bus.bootMapped <;> simp [h]
  all_goals simp [h]

/-- The ways an access to cartridge RAM ends (R113, R122, R127, R136, R145). -/
theorem cartRamTarget_cases (t : RamTarget) :
    cartRamTarget t = .absent ∨ (∃ i, t = .cell i ∧ cartRamTarget t = .cell (.cartRam i)) ∨
      ∃ sel, t = .clock sel ∧ cartRamTarget t = .clock sel := by
  cases t <;> simp [cartRamTarget]

/-- A cartridge RAM cell that an access reaches lies in the array: 512 cells of an MBC2, else `ramSize`
bytes (R102, R125). -/
theorem ramTarget_cell_lt (c : Cartridge) (a : Word) (i : Nat) (h : c.ramTarget a = .cell i) :
    match c.mapper with
    | .mbc2 _ => i < Config.ram2Size
    | _ => i < c.ramSize := by
  have key : ∀ (b : Bool) (n : Nat), c.externalRam b n a = .cell i → i < c.ramSize := fun b n hx => by
    unfold Cartridge.externalRam at hx
    split at hx
    · rename_i hb
      simp only [Bool.and_eq_true, bne_iff_ne, ne_eq] at hb
      cases hx
      exact Nat.mod_lt _ (Nat.pos_of_ne_zero hb.2)
    · cases hx
  unfold Cartridge.ramTarget at h
  split at h <;> rename_i hm <;> simp only [hm]
  · cases h
  · exact key _ _ h
  · split at h
    · cases h; exact Nat.mod_lt _ (by decide)
    · cases h
  · split at h
    · exact key _ _ h
    · split at h <;> cases h
  · exact key _ _ h

/-! ### The record of accesses -/

/-- A read changes the record of accesses only, and only adds to it (R6, R82). -/
theorem afterRead_record (a : Word) (s : State) :
    ∃ evs : List BusEvent,
      afterRead a s = { s with bus := { s.bus with events := evs ++ s.bus.events } } := by
  unfold afterRead
  split
  · exact ⟨[_], rfl⟩
  · exact ⟨[_], rfl⟩
  · exact ⟨[_], rfl⟩
  · exact ⟨[_], rfl⟩
  · exact ⟨[], rfl⟩

/-- A store only adds to the record of accesses (R6). -/
theorem memWrite_record (a : Word) (v : Byte) (s : State) :
    ∃ evs : List BusEvent, (memWrite a v s).bus.events = evs ++ s.bus.events := by
  unfold memWrite
  split
  case h_3 => exact ⟨_, rfl⟩
  case h_4 => exact ⟨[], by simp⟩
  case h_10 => exact ⟨[_], by rw [logEvent_bus_events]; split <;> rfl⟩
  all_goals first | exact ⟨[], rfl⟩ | exact ⟨[_], rfl⟩

/-! ### The canonical form -/

theorem State.memWf_iff (s : State) : s.memWf = true ↔ s.bus.wf = true ∧ s.cart.wf = true := by
  simp [State.memWf]

/-- The well-formedness of a bus looks at its arrays only. -/
theorem Bus.wf_congr {b b' : Bus} (hv : b'.vram = b.vram) (hw : b'.wram = b.wram) (ho : b'.oam = b.oam)
    (hh : b'.hram = b.hram) (hb : b'.boot = b.boot) : b'.wf = b.wf := by
  simp [Bus.wf, hv, hw, ho, hh, hb]

/-- A write to the mapper registers keeps the mapper well-formed: a bank register that is never zero stays
so (R116, R126, R133). -/
theorem Mapper.wf_writeRom (m : Mapper) (a : Word) (v : Byte) (h : m.wf = true) :
    (m.writeRom a v).wf = true := by
  cases m with
  | noMapper => rfl
  | mbc1 r =>
    simp only [Mapper.writeRom, Mapper.wf, Mbc1.write, bne_iff_ne, ne_eq] at h ⊢
    split_ifs <;> simp_all
  | mbc2 r =>
    simp only [Mapper.writeRom, Mapper.wf, Mbc2.write, bne_iff_ne, ne_eq] at h ⊢
    split_ifs <;> simp_all
  | mbc3 k r =>
    simp only [Mapper.writeRom, Mapper.wf, Mbc3.write, bne_iff_ne, ne_eq] at h ⊢
    split_ifs <;> simp_all
  | mbc5 k r => rfl

/-- A write to the mapper registers keeps the cartridge well-formed. -/
theorem Cartridge.wf_writeRom (c : Cartridge) (a : Word) (v : Byte) (h : c.wf = true) :
    Cartridge.wf { c with mapper := c.mapper.writeRom a v } = true := by
  simp only [Cartridge.wf, Bool.and_eq_true] at h ⊢
  obtain ⟨⟨⟨h1, h3⟩, h4⟩, h5⟩ := h
  refine ⟨⟨⟨h1, h3⟩, ?_⟩, Mapper.wf_writeRom _ _ _ h5⟩
  unfold Cartridge.ramWf at h4 ⊢
  cases hm : c.mapper <;> simp only [hm, Mapper.writeRom] at h4 ⊢ <;> exact h4

/-- A store to a cell of cartridge RAM keeps the cartridge well-formed. -/
theorem Cartridge.wf_writeRamCell (c : Cartridge) (a : Word) (i : Nat) (v : Byte) (h : c.wf = true)
    (ha : c.ramTarget a = .cell i) : (c.writeRamCell i v).wf = true := by
  have hi := ramTarget_cell_lt c a i ha
  simp only [Cartridge.wf, Bool.and_eq_true] at h ⊢
  obtain ⟨⟨⟨⟨⟨h1, h2⟩, h3⟩, h4⟩, h5⟩, h6⟩ := h
  have hn : (v &&& 0x0F).toNat < 16 := by
    have : (v &&& 0x0F).toNat = v.toNat &&& 15 := by simp
    rw [this]
    exact Nat.lt_of_le_of_lt Nat.and_le_right (by decide)
  unfold Cartridge.writeRamCell Cartridge.ramWf at *
  cases hm : c.mapper <;> simp only [hm] at hi h5 h6 ⊢ <;>
    (try simp only [Bool.and_eq_true] at h5 ⊢) <;>
    refine ⟨⟨⟨⟨⟨h1, h2⟩, h3⟩, Memory.wf_write _ _ _ h4⟩, ?_⟩, h6⟩
  case mbc2 r =>
    exact ⟨Memory.within_write _ _ _ _ h5.1 hi,
      Memory.all_write _ _ _ (fun x => decide (x.toNat < 16)) h5.2 (by simpa using hn)⟩
  all_goals exact Memory.within_write _ _ _ _ h5 hi

/-- A store to a cell that an access reaches keeps every memory in canonical form. -/
theorem State.memWf_writeCell (s : State) (a : Word) (c : CellId) (v : Byte) (h : s.memWf = true)
    (ha : target a s = .cell c) : (writeCell c v s).memWf = true := by
  obtain ⟨hb, hc⟩ := (State.memWf_iff s).mp h
  rw [State.memWf_iff]
  have hb' := hb
  simp only [Bus.wf, Bool.and_eq_true] at hb'
  obtain ⟨⟨⟨⟨⟨⟨⟨⟨⟨v1, v2⟩, w1⟩, w2⟩, o1⟩, o2⟩, r1⟩, r2⟩, b1⟩, b2⟩ := hb'
  rcases target_cases a s with ⟨e, _⟩ | ⟨e, _⟩ | ⟨e, _⟩ | ⟨e, l, u⟩ | ⟨e, l, u⟩ | ⟨e, l, u⟩ |
    ⟨e, l, u⟩ | ⟨e, l, u⟩ | ⟨e, _⟩ | ⟨e, _⟩ | ⟨e, _⟩ | ⟨e, _⟩ | ⟨e, l, u⟩ | ⟨e, _⟩ <;> rw [e] at ha
  case inr.inr.inr.inr.inl =>
    rcases cartRamTarget_cases (s.cart.ramTarget a) with h' | ⟨i, hi, h'⟩ | ⟨sel, _, h'⟩ <;>
      rw [h'] at ha
    · cases ha
    · cases ha
      exact ⟨hb, Cartridge.wf_writeRamCell _ a i v hc hi⟩
    · cases ha
  all_goals cases ha
  all_goals refine ⟨?_, hc⟩
  all_goals simp only [writeCell, Bus.wf, Bool.and_eq_true, v1, v2, w1, w2, o1, o2, r1, r2, b1, b2,
    and_true, true_and]
  · exact ⟨Memory.wf_write _ _ _ v1, Memory.within_write _ _ _ _ v2 (by simp [Config.vramSize]; omega)⟩
  · exact ⟨Memory.wf_write _ _ _ w1, Memory.within_write _ _ _ _ w2 (by simp [Config.wramSize]; omega)⟩
  · exact ⟨Memory.wf_write _ _ _ w1, Memory.within_write _ _ _ _ w2 (by simp [Config.wramSize]; omega)⟩
  · exact ⟨Memory.wf_write _ _ _ o1, Memory.within_write _ _ _ _ o2 (by simp [Config.oamSize]; omega)⟩
  · exact ⟨Memory.wf_write _ _ _ r1, Memory.within_write _ _ _ _ r2 (by simp [Config.hramSize]; omega)⟩

/-- A store keeps every memory in canonical form. -/
theorem State.memWf_memWrite (s : State) (a : Word) (v : Byte) (h : s.memWf = true) :
    (memWrite a v s).memWf = true := by
  obtain ⟨hb, hc⟩ := (State.memWf_iff s).mp h
  unfold memWrite
  split <;> try exact h
  · exact (State.memWf_iff _).mpr ⟨hb, Cartridge.wf_writeRom _ a v hc⟩
  · rename_i c hc'
    exact State.memWf_writeCell s a c v h hc'
  · split <;> exact h

/-- A read keeps every memory in canonical form. -/
theorem State.memWf_afterRead (s : State) (a : Word) (h : s.memWf = true) :
    (afterRead a s).memWf = true := by
  unfold afterRead
  split <;> exact h

/-- Every memory of the reset state is in canonical form. -/
theorem State.memWf_reset : State.reset.memWf = true := by decide

/-- Placing a byte for the host keeps every memory in canonical form. -/
theorem State.memWf_placeByte (s : State) (a : Word) (v : Byte) (h : s.memWf = true)
    (hp : placeable a s = true) : (placeByte a v s).memWf = true := by
  obtain ⟨hb, hc⟩ := (State.memWf_iff s).mp h
  have rom : (s.cart.romIndex (s.cart.bankAt a) (a.toNat % 0x4000) < s.cart.romLen) →
      (placeRom a v s).memWf = true := fun hlt => by
    refine (State.memWf_iff _).mpr ⟨hb, ?_⟩
    simp only [Cartridge.wf, Bool.and_eq_true, placeRom] at hc ⊢
    obtain ⟨⟨⟨⟨⟨h1, h2⟩, h3⟩, h4⟩, h5⟩, h6⟩ := hc
    exact ⟨⟨⟨⟨⟨Memory.wf_write _ _ _ h1, Memory.within_write _ _ _ _ h2 hlt⟩, h3⟩, h4⟩, h5⟩, h6⟩
  unfold placeable at hp
  unfold placeByte
  split <;> rename_i e <;> (try rw [e] at hp) <;> (try simp only [decide_eq_true_eq] at hp)
  · refine (State.memWf_iff _).mpr ⟨?_, hc⟩
    simp only [Bus.wf, Bool.and_eq_true] at hb ⊢
    obtain ⟨⟨h1, h2⟩, h3⟩ := hb
    refine ⟨⟨h1, Memory.wf_write _ _ _ h2⟩, Memory.within_write _ _ _ _ h3 ?_⟩
    rcases target_cases a s with ⟨_, l, _⟩ | h' | h' | h' | h' | h' | h' | h' | h' | h' | h' | h' | h' | h'
    · exact l
    all_goals have h' := e.symm.trans h'.1
    case inr.inr.inr.inr.inl =>
      rcases cartRamTarget_cases (s.cart.ramTarget a) with h2 | ⟨i, hi, h2⟩ | ⟨sel, _, h2⟩ <;>
        rw [h2] at h' <;> simp at h'
    all_goals simp at h'
  · exact rom hp
  · exact rom hp
  · exact State.memWf_writeCell s a _ v h e
  · exact h

/-! ### What the bus and the register operations never change -/

/-- The mapper variant without its registers. -/
def Mapper.kind (m : Mapper) : Nat × Bool :=
  match m with
  | .noMapper => (0, false)
  | .mbc1 _ => (1, false)
  | .mbc2 _ => (2, false)
  | .mbc3 hasClock _ => (3, hasClock)
  | .mbc5 rumble _ => (5, rumble)

/-- A write to the mapper registers keeps the variant. -/
@[simp] theorem Mapper.kind_writeRom (m : Mapper) (a : Word) (v : Byte) :
    (m.writeRom a v).kind = m.kind := by
  cases m <;> rfl

@[simp] theorem Cartridge.kind_writeRamCell (c : Cartridge) (i : Nat) (v : Byte) :
    (c.writeRamCell i v).mapper.kind = c.mapper.kind := by
  unfold Cartridge.writeRamCell
  split <;> rfl

/-- A store keeps the mapper variant. -/
@[simp] theorem kind_memWrite (a : Word) (v : Byte) (s : State) :
    (memWrite a v s).cart.mapper.kind = s.cart.mapper.kind := by
  unfold memWrite
  cases target a s with
  | rom => exact Mapper.kind_writeRom _ a v
  | cell c => cases c <;> first | rfl | exact Cartridge.kind_writeRamCell _ _ v
  | unmapReg => dsimp only; split <;> rfl
  | _ => rfl

/-- `t` keeps what no access and no register write changes: the control flags, the fault, the ROM, the mapper
variant and the boot buffer; it maps no boot ROM anew; and it keeps the canonical form and F's zero low nibble. -/
structure Keeps (s t : State) : Prop where
  ime : t.ime = s.ime
  imeSched : t.imeSched = s.imeSched
  halted : t.halted = s.halted
  fault : t.fault = s.fault
  rom : t.cart.rom = s.cart.rom
  romLen : t.cart.romLen = s.cart.romLen
  romBanks : t.cart.romBanks = s.cart.romBanks
  ramSize : t.cart.ramSize = s.cart.ramSize
  boot : t.bus.boot = s.bus.boot
  kind : t.cart.mapper.kind = s.cart.mapper.kind
  bootMapped : t.bus.bootMapped = true → s.bus.bootMapped = true
  memWf : s.memWf = true → t.memWf = true
  fLowZero : s.fLowZero = true → t.fLowZero = true

theorem Keeps.refl (s : State) : Keeps s s := by
  constructor <;> try simp

theorem Keeps.trans {s t u : State} (h : Keeps s t) (k : Keeps t u) : Keeps s u where
  ime := k.ime.trans h.ime
  imeSched := k.imeSched.trans h.imeSched
  halted := k.halted.trans h.halted
  fault := k.fault.trans h.fault
  rom := k.rom.trans h.rom
  romLen := k.romLen.trans h.romLen
  romBanks := k.romBanks.trans h.romBanks
  ramSize := k.ramSize.trans h.ramSize
  boot := k.boot.trans h.boot
  kind := k.kind.trans h.kind
  bootMapped := fun x => h.bootMapped (k.bootMapped x)
  memWf := fun x => k.memWf (h.memWf x)
  fLowZero := fun x => k.fLowZero (h.fLowZero x)

/-- A state that differs in its registers only, with F's low nibble still zero. -/
theorem Keeps.ofRegs (s : State) (r : RegisterFile)
    (h : s.regs.f &&& 0x0F = 0 → r.f &&& 0x0F = 0) : Keeps s { s with regs := r } := by
  constructor <;> try simp
  · exact id
  · simpa [State.fLowZero] using h

theorem Keeps.setPc (s : State) (pc : Word) : Keeps s (s.setPc pc) := Keeps.ofRegs s _ id

theorem Keeps.setSp (s : State) (sp : Word) : Keeps s (s.setSp sp) := Keeps.ofRegs s _ id

/-- Writing a register through the register file's own operation keeps F's low nibble zero (R21). -/
theorem RegisterFile.set8_f_low (r : RegisterFile) (x : Reg8) (v : Byte) (h : r.f &&& 0x0F = 0) :
    (r.set8 x v).f &&& 0x0F = 0 := by
  cases x <;> simp only [RegisterFile.set8] <;> try exact h
  rw [BitVec.and_assoc, show (0xF0 : Byte) &&& 0x0F = 0 from rfl]
  exact BitVec.and_zero

theorem RegisterFile.set16_f_low (r : RegisterFile) (x : Reg16) (v : Word) (h : r.f &&& 0x0F = 0) :
    (r.set16 x v).f &&& 0x0F = 0 := by
  cases x <;> simp only [RegisterFile.set16]
  case sp => exact h
  case pc => exact h
  all_goals exact RegisterFile.set8_f_low _ _ _ (RegisterFile.set8_f_low _ _ _ h)

theorem Keeps.setR (s : State) (r : R8) (v : Byte) : Keeps s (s.setR r v) :=
  Keeps.ofRegs s _ (RegisterFile.set8_f_low _ _ _)

theorem Keeps.set16 (s : State) (x : Reg16) (v : Word) : Keeps s (s.set16 x v) :=
  Keeps.ofRegs s _ (RegisterFile.set16_f_low _ _ _)

theorem Keeps.setFlags (s : State) (fl : Flags) : Keeps s (s.setFlags fl) :=
  Keeps.ofRegs s _ (RegisterFile.set8_f_low _ _ _)

theorem Keeps.memWrite (s : State) (a : Word) (v : Byte) : Keeps s (memWrite a v s) := by
  constructor <;> try simp
  · unfold Machine.memWrite
    split <;> simp
    split <;> simp
  · exact State.memWf_memWrite s a v
  · simp [State.fLowZero]

theorem Keeps.afterRead (s : State) (a : Word) : Keeps s (afterRead a s) := by
  constructor <;> try simp
  · exact State.memWf_afterRead s a
  · simp [State.fLowZero]

theorem Keeps.fetch8 (s : State) : Keeps s (fetch8 s).2 :=
  (Keeps.afterRead s _).trans (Keeps.setPc _ _)

theorem Keeps.push8 (s : State) (v : Byte) : Keeps s (push8 v s) :=
  (Keeps.setSp s _).trans (Keeps.memWrite _ _ _)

theorem Keeps.push16 (s : State) (v : Word) : Keeps s (push16 v s) :=
  (Keeps.push8 s _).trans (Keeps.push8 _ _)

theorem Keeps.pop8 (s : State) : Keeps s (pop8 s).2 :=
  (Keeps.afterRead s _).trans (Keeps.setSp _ _)

theorem Keeps.pop16 (s : State) : Keeps s (pop16 s).2 := (Keeps.pop8 s).trans (Keeps.pop8 _)

theorem Keeps.memWrite16 (s : State) (a v : Word) : Keeps s (memWrite16 a v s) :=
  (Keeps.memWrite s _ _).trans (Keeps.memWrite _ _ _)

theorem Keeps.readRm (s : State) (m : Rm) : Keeps s (readRm m s).2 := by
  cases m
  · exact Keeps.refl s
  · exact Keeps.afterRead s _

theorem Keeps.writeRm (s : State) (m : Rm) (v : Byte) : Keeps s (writeRm m v s) := by
  cases m
  · exact Keeps.setR s _ v
  · exact Keeps.memWrite s _ v

end Sys2Proof.Machine
end

