-- ==== Sys2Proof/Laws/Decode.lean ====
section
/-!
SUPPORT. The laws of the byte-order helpers and of the decoder: a word and its two bytes, and one lemma for each
shape of a catalog entry.
-/

namespace Sys2Proof

theorem hiByte_toNat (w : Word) : (hiByte w).toNat = w.toNat / 256 := by
  have := w.isLt
  simp [hiByte, BitVec.extractLsb'_toNat, Nat.shiftRight_eq_div_pow]
  omega

theorem loByte_toNat (w : Word) : (loByte w).toNat = w.toNat % 256 := by
  simp [loByte, BitVec.extractLsb'_toNat]

theorem wordOf_toNat (hi lo : Byte) : (wordOf hi lo).toNat = 256 * hi.toNat + lo.toNat := by
  have h := lo.isLt
  rw [wordOf, BitVec.toNat_append, ← Nat.shiftLeft_add_eq_or_of_lt h, Nat.shiftLeft_eq]
  omega

/-- The halves of a word make it up (R9). -/
@[simp] theorem wordOf_hiByte_loByte (w : Word) : wordOf (hiByte w) (loByte w) = w := by
  apply BitVec.eq_of_toNat_eq
  rw [wordOf_toNat, hiByte_toNat, loByte_toNat]
  omega

@[simp] theorem hiByte_wordOf (hi lo : Byte) : hiByte (wordOf hi lo) = hi := by
  have h := lo.isLt
  apply BitVec.eq_of_toNat_eq
  rw [hiByte_toNat, wordOf_toNat]
  omega

@[simp] theorem loByte_wordOf (hi lo : Byte) : loByte (wordOf hi lo) = lo := by
  have h := lo.isLt
  apply BitVec.eq_of_toNat_eq
  rw [loByte_toNat, wordOf_toNat]
  omega

theorem decode_one {op : Byte} {i : Instr} (rest : List Byte) (h : decodeMain op = .one i) :
    decode (op :: rest) = .ok (i, rest) := by
  simp [decode, h]

theorem decode_two {op : Byte} {i : Byte → Instr} (b1 : Byte) (rest : List Byte)
    (h : decodeMain op = .two i) : decode (op :: b1 :: rest) = .ok (i b1, rest) := by
  simp [decode, h]

theorem decode_three {op : Byte} {i : Word → Instr} (b1 b2 : Byte) (rest : List Byte)
    (h : decodeMain op = .three i) : decode (op :: b1 :: b2 :: rest) = .ok (i (wordOf b2 b1), rest) := by
  simp [decode, h]

end Sys2Proof
end

