-- ==== Sys2Proof/Laws/Groups.lean ====
section
/-!
SUPPORT. The instructions by group: every instruction is one of a regular group (Decode.lean's builders) or
an irregular one, and `exec` of it is one shared operation. A proof about every instruction goes by
`cases i.group`, and one lemma for each group.
-/

namespace Sys2Proof

open Sys2Proof.Machine

/-- The groups of instructions. -/
inductive Group : Instr → Prop where
  | ld (dst src : R8) : Group (Instr.ld (.reg dst) (.reg src))
  | ldFromHL (dst : R8) : Group (Instr.ld (.reg dst) .atHL)
  | ldToHL (src : R8) : Group (Instr.ld .atHL (.reg src))
  | ldImm (r : R8) (n : Byte) : Group (Instr.ldImm (.reg r) n)
  | inc (m : Rm) : Group (Instr.inc m)
  | dec (m : Rm) : Group (Instr.dec m)
  | alu (op : AluOp) (m : Rm) : Group (Instr.alu op m)
  | aluImm (op : AluOp) (n : Byte) : Group (Instr.aluImm op n)
  | ldPair (p : Rp) (nn : Word) : Group (Instr.ldPair p nn)
  | addHL (p : Rp) : Group (Instr.addHL p)
  | incPair (p : Rp) : Group (Instr.incPair p)
  | decPair (p : Rp) : Group (Instr.decPair p)
  | pop (p : Rp2) : Group (Instr.pop p)
  | push (p : Rp2) : Group (Instr.push p)
  | jrCond (k : Cond) (e : Byte) : Group (Instr.jrCond k e)
  | jpCond (k : Cond) (nn : Word) : Group (Instr.jpCond k nn)
  | callCond (k : Cond) (nn : Word) : Group (Instr.callCond k nn)
  | retCond (k : Cond) : Group (Instr.retCond k)
  | rst (y : Fin 8) : Group (Instr.rst y)
  | rot (k : RotOp) (m : Rm) : Group (Instr.rot k m)
  | bit (b : Fin 8) (m : Rm) : Group (Instr.bit b m)
  | res (b : Fin 8) (m : Rm) : Group (Instr.res b m)
  | set (b : Fin 8) (m : Rm) : Group (Instr.set b m)
  | nop : Group .nop
  | ld_atBC_A : Group .ld_atBC_A
  | rlca : Group .rlca
  | ld_atNn_SP (nn : Word) : Group (.ld_atNn_SP nn)
  | ld_A_atBC : Group .ld_A_atBC
  | rrca : Group .rrca
  | stop (x : Byte) : Group (.stop x)
  | ld_atDE_A : Group .ld_atDE_A
  | rla : Group .rla
  | jr_e (e : Byte) : Group (.jr_e e)
  | ld_A_atDE : Group .ld_A_atDE
  | rra : Group .rra
  | ld_atHLi_A : Group .ld_atHLi_A
  | daa : Group .daa
  | ld_A_atHLi : Group .ld_A_atHLi
  | cpl : Group .cpl
  | ld_atHLd_A : Group .ld_atHLd_A
  | ld_atHL_n (n : Byte) : Group (.ld_atHL_n n)
  | scf : Group .scf
  | ld_A_atHLd : Group .ld_A_atHLd
  | ccf : Group .ccf
  | halt : Group .halt
  | jp_nn (nn : Word) : Group (.jp_nn nn)
  | ret : Group .ret
  | prefixCb : Group .prefixCb
  | call_nn (nn : Word) : Group (.call_nn nn)
  | invalid_D3 : Group .invalid_D3
  | reti : Group .reti
  | invalid_DB : Group .invalid_DB
  | invalid_DD : Group .invalid_DD
  | ldh_atN_A (n : Byte) : Group (.ldh_atN_A n)
  | ld_atC_A : Group .ld_atC_A
  | invalid_E3 : Group .invalid_E3
  | invalid_E4 : Group .invalid_E4
  | add_SP_e (e : Byte) : Group (.add_SP_e e)
  | jp_HL : Group .jp_HL
  | ld_atNn_A (nn : Word) : Group (.ld_atNn_A nn)
  | invalid_EB : Group .invalid_EB
  | invalid_EC : Group .invalid_EC
  | invalid_ED : Group .invalid_ED
  | ldh_A_atN (n : Byte) : Group (.ldh_A_atN n)
  | ld_A_atC : Group .ld_A_atC
  | di : Group .di
  | invalid_F4 : Group .invalid_F4
  | ld_HL_SPe (e : Byte) : Group (.ld_HL_SPe e)
  | ld_SP_HL : Group .ld_SP_HL
  | ld_A_atNn (nn : Word) : Group (.ld_A_atNn nn)
  | ei : Group .ei
  | invalid_FC : Group .invalid_FC
  | invalid_FD : Group .invalid_FD

/-- Every instruction is of one group. -/
theorem Instr.group : (i : Instr) → Group i
  | .nop => .nop
  | .ld_BC_nn nn => .ldPair .bc nn
  | .ld_atBC_A => .ld_atBC_A
  | .inc_BC => .incPair .bc
  | .inc_B => .inc (.reg .b)
  | .dec_B => .dec (.reg .b)
  | .ld_B_n n => .ldImm .b n
  | .rlca => .rlca
  | .ld_atNn_SP nn => .ld_atNn_SP nn
  | .add_HL_BC => .addHL .bc
  | .ld_A_atBC => .ld_A_atBC
  | .dec_BC => .decPair .bc
  | .inc_C => .inc (.reg .c)
  | .dec_C => .dec (.reg .c)
  | .ld_C_n n => .ldImm .c n
  | .rrca => .rrca
  | .stop x => .stop x
  | .ld_DE_nn nn => .ldPair .de nn
  | .ld_atDE_A => .ld_atDE_A
  | .inc_DE => .incPair .de
  | .inc_D => .inc (.reg .d)
  | .dec_D => .dec (.reg .d)
  | .ld_D_n n => .ldImm .d n
  | .rla => .rla
  | .jr_e e => .jr_e e
  | .add_HL_DE => .addHL .de
  | .ld_A_atDE => .ld_A_atDE
  | .dec_DE => .decPair .de
  | .inc_E => .inc (.reg .e)
  | .dec_E => .dec (.reg .e)
  | .ld_E_n n => .ldImm .e n
  | .rra => .rra
  | .jr_NZ_e e => .jrCond .nz e
  | .ld_HL_nn nn => .ldPair .hl nn
  | .ld_atHLi_A => .ld_atHLi_A
  | .inc_HL => .incPair .hl
  | .inc_H => .inc (.reg .h)
  | .dec_H => .dec (.reg .h)
  | .ld_H_n n => .ldImm .h n
  | .daa => .daa
  | .jr_Z_e e => .jrCond .z e
  | .add_HL_HL => .addHL .hl
  | .ld_A_atHLi => .ld_A_atHLi
  | .dec_HL => .decPair .hl
  | .inc_L => .inc (.reg .l)
  | .dec_L => .dec (.reg .l)
  | .ld_L_n n => .ldImm .l n
  | .cpl => .cpl
  | .jr_NC_e e => .jrCond .nc e
  | .ld_SP_nn nn => .ldPair .sp nn
  | .ld_atHLd_A => .ld_atHLd_A
  | .inc_SP => .incPair .sp
  | .inc_atHL => .inc .atHL
  | .dec_atHL => .dec .atHL
  | .ld_atHL_n n => .ld_atHL_n n
  | .scf => .scf
  | .jr_C_e e => .jrCond .c e
  | .add_HL_SP => .addHL .sp
  | .ld_A_atHLd => .ld_A_atHLd
  | .dec_SP => .decPair .sp
  | .inc_A => .inc (.reg .a)
  | .dec_A => .dec (.reg .a)
  | .ld_A_n n => .ldImm .a n
  | .ccf => .ccf
  | .ld_B_B => .ld .b .b
  | .ld_B_C => .ld .b .c
  | .ld_B_D => .ld .b .d
  | .ld_B_E => .ld .b .e
  | .ld_B_H => .ld .b .h
  | .ld_B_L => .ld .b .l
  | .ld_B_atHL => .ldFromHL .b
  | .ld_B_A => .ld .b .a
  | .ld_C_B => .ld .c .b
  | .ld_C_C => .ld .c .c
  | .ld_C_D => .ld .c .d
  | .ld_C_E => .ld .c .e
  | .ld_C_H => .ld .c .h
  | .ld_C_L => .ld .c .l
  | .ld_C_atHL => .ldFromHL .c
  | .ld_C_A => .ld .c .a
  | .ld_D_B => .ld .d .b
  | .ld_D_C => .ld .d .c
  | .ld_D_D => .ld .d .d
  | .ld_D_E => .ld .d .e
  | .ld_D_H => .ld .d .h
  | .ld_D_L => .ld .d .l
  | .ld_D_atHL => .ldFromHL .d
  | .ld_D_A => .ld .d .a
  | .ld_E_B => .ld .e .b
  | .ld_E_C => .ld .e .c
  | .ld_E_D => .ld .e .d
  | .ld_E_E => .ld .e .e
  | .ld_E_H => .ld .e .h
  | .ld_E_L => .ld .e .l
  | .ld_E_atHL => .ldFromHL .e
  | .ld_E_A => .ld .e .a
  | .ld_H_B => .ld .h .b
  | .ld_H_C => .ld .h .c
  | .ld_H_D => .ld .h .d
  | .ld_H_E => .ld .h .e
  | .ld_H_H => .ld .h .h
  | .ld_H_L => .ld .h .l
  | .ld_H_atHL => .ldFromHL .h
  | .ld_H_A => .ld .h .a
  | .ld_L_B => .ld .l .b
  | .ld_L_C => .ld .l .c
  | .ld_L_D => .ld .l .d
  | .ld_L_E => .ld .l .e
  | .ld_L_H => .ld .l .h
  | .ld_L_L => .ld .l .l
  | .ld_L_atHL => .ldFromHL .l
  | .ld_L_A => .ld .l .a
  | .ld_atHL_B => .ldToHL .b
  | .ld_atHL_C => .ldToHL .c
  | .ld_atHL_D => .ldToHL .d
  | .ld_atHL_E => .ldToHL .e
  | .ld_atHL_H => .ldToHL .h
  | .ld_atHL_L => .ldToHL .l
  | .halt => .halt
  | .ld_atHL_A => .ldToHL .a
  | .ld_A_B => .ld .a .b
  | .ld_A_C => .ld .a .c
  | .ld_A_D => .ld .a .d
  | .ld_A_E => .ld .a .e
  | .ld_A_H => .ld .a .h
  | .ld_A_L => .ld .a .l
  | .ld_A_atHL => .ldFromHL .a
  | .ld_A_A => .ld .a .a
  | .add_A_B => .alu .add (.reg .b)
  | .add_A_C => .alu .add (.reg .c)
  | .add_A_D => .alu .add (.reg .d)
  | .add_A_E => .alu .add (.reg .e)
  | .add_A_H => .alu .add (.reg .h)
  | .add_A_L => .alu .add (.reg .l)
  | .add_A_atHL => .alu .add .atHL
  | .add_A_A => .alu .add (.reg .a)
  | .adc_A_B => .alu .adc (.reg .b)
  | .adc_A_C => .alu .adc (.reg .c)
  | .adc_A_D => .alu .adc (.reg .d)
  | .adc_A_E => .alu .adc (.reg .e)
  | .adc_A_H => .alu .adc (.reg .h)
  | .adc_A_L => .alu .adc (.reg .l)
  | .adc_A_atHL => .alu .adc .atHL
  | .adc_A_A => .alu .adc (.reg .a)
  | .sub_B => .alu .sub (.reg .b)
  | .sub_C => .alu .sub (.reg .c)
  | .sub_D => .alu .sub (.reg .d)
  | .sub_E => .alu .sub (.reg .e)
  | .sub_H => .alu .sub (.reg .h)
  | .sub_L => .alu .sub (.reg .l)
  | .sub_atHL => .alu .sub .atHL
  | .sub_A => .alu .sub (.reg .a)
  | .sbc_A_B => .alu .sbc (.reg .b)
  | .sbc_A_C => .alu .sbc (.reg .c)
  | .sbc_A_D => .alu .sbc (.reg .d)
  | .sbc_A_E => .alu .sbc (.reg .e)
  | .sbc_A_H => .alu .sbc (.reg .h)
  | .sbc_A_L => .alu .sbc (.reg .l)
  | .sbc_A_atHL => .alu .sbc .atHL
  | .sbc_A_A => .alu .sbc (.reg .a)
  | .and_B => .alu .and (.reg .b)
  | .and_C => .alu .and (.reg .c)
  | .and_D => .alu .and (.reg .d)
  | .and_E => .alu .and (.reg .e)
  | .and_H => .alu .and (.reg .h)
  | .and_L => .alu .and (.reg .l)
  | .and_atHL => .alu .and .atHL
  | .and_A => .alu .and (.reg .a)
  | .xor_B => .alu .xor (.reg .b)
  | .xor_C => .alu .xor (.reg .c)
  | .xor_D => .alu .xor (.reg .d)
  | .xor_E => .alu .xor (.reg .e)
  | .xor_H => .alu .xor (.reg .h)
  | .xor_L => .alu .xor (.reg .l)
  | .xor_atHL => .alu .xor .atHL
  | .xor_A => .alu .xor (.reg .a)
  | .or_B => .alu .or (.reg .b)
  | .or_C => .alu .or (.reg .c)
  | .or_D => .alu .or (.reg .d)
  | .or_E => .alu .or (.reg .e)
  | .or_H => .alu .or (.reg .h)
  | .or_L => .alu .or (.reg .l)
  | .or_atHL => .alu .or .atHL
  | .or_A => .alu .or (.reg .a)
  | .cp_B => .alu .cp (.reg .b)
  | .cp_C => .alu .cp (.reg .c)
  | .cp_D => .alu .cp (.reg .d)
  | .cp_E => .alu .cp (.reg .e)
  | .cp_H => .alu .cp (.reg .h)
  | .cp_L => .alu .cp (.reg .l)
  | .cp_atHL => .alu .cp .atHL
  | .cp_A => .alu .cp (.reg .a)
  | .ret_NZ => .retCond .nz
  | .pop_BC => .pop .bc
  | .jp_NZ_nn nn => .jpCond .nz nn
  | .jp_nn nn => .jp_nn nn
  | .call_NZ_nn nn => .callCond .nz nn
  | .push_BC => .push .bc
  | .add_A_n n => .aluImm .add n
  | .rst_00 => .rst 0
  | .ret_Z => .retCond .z
  | .ret => .ret
  | .jp_Z_nn nn => .jpCond .z nn
  | .prefixCb => .prefixCb
  | .call_Z_nn nn => .callCond .z nn
  | .call_nn nn => .call_nn nn
  | .adc_A_n n => .aluImm .adc n
  | .rst_08 => .rst 1
  | .ret_NC => .retCond .nc
  | .pop_DE => .pop .de
  | .jp_NC_nn nn => .jpCond .nc nn
  | .invalid_D3 => .invalid_D3
  | .call_NC_nn nn => .callCond .nc nn
  | .push_DE => .push .de
  | .sub_n n => .aluImm .sub n
  | .rst_10 => .rst 2
  | .ret_C => .retCond .c
  | .reti => .reti
  | .jp_C_nn nn => .jpCond .c nn
  | .invalid_DB => .invalid_DB
  | .call_C_nn nn => .callCond .c nn
  | .invalid_DD => .invalid_DD
  | .sbc_A_n n => .aluImm .sbc n
  | .rst_18 => .rst 3
  | .ldh_atN_A n => .ldh_atN_A n
  | .pop_HL => .pop .hl
  | .ld_atC_A => .ld_atC_A
  | .invalid_E3 => .invalid_E3
  | .invalid_E4 => .invalid_E4
  | .push_HL => .push .hl
  | .and_n n => .aluImm .and n
  | .rst_20 => .rst 4
  | .add_SP_e e => .add_SP_e e
  | .jp_HL => .jp_HL
  | .ld_atNn_A nn => .ld_atNn_A nn
  | .invalid_EB => .invalid_EB
  | .invalid_EC => .invalid_EC
  | .invalid_ED => .invalid_ED
  | .xor_n n => .aluImm .xor n
  | .rst_28 => .rst 5
  | .ldh_A_atN n => .ldh_A_atN n
  | .pop_AF => .pop .af
  | .ld_A_atC => .ld_A_atC
  | .di => .di
  | .invalid_F4 => .invalid_F4
  | .push_AF => .push .af
  | .or_n n => .aluImm .or n
  | .rst_30 => .rst 6
  | .ld_HL_SPe e => .ld_HL_SPe e
  | .ld_SP_HL => .ld_SP_HL
  | .ld_A_atNn nn => .ld_A_atNn nn
  | .ei => .ei
  | .invalid_FC => .invalid_FC
  | .invalid_FD => .invalid_FD
  | .cp_n n => .aluImm .cp n
  | .rst_38 => .rst 7
  | .rlc_B => .rot .rlc (.reg .b)
  | .rlc_C => .rot .rlc (.reg .c)
  | .rlc_D => .rot .rlc (.reg .d)
  | .rlc_E => .rot .rlc (.reg .e)
  | .rlc_H => .rot .rlc (.reg .h)
  | .rlc_L => .rot .rlc (.reg .l)
  | .rlc_atHL => .rot .rlc .atHL
  | .rlc_A => .rot .rlc (.reg .a)
  | .rrc_B => .rot .rrc (.reg .b)
  | .rrc_C => .rot .rrc (.reg .c)
  | .rrc_D => .rot .rrc (.reg .d)
  | .rrc_E => .rot .rrc (.reg .e)
  | .rrc_H => .rot .rrc (.reg .h)
  | .rrc_L => .rot .rrc (.reg .l)
  | .rrc_atHL => .rot .rrc .atHL
  | .rrc_A => .rot .rrc (.reg .a)
  | .rl_B => .rot .rl (.reg .b)
  | .rl_C => .rot .rl (.reg .c)
  | .rl_D => .rot .rl (.reg .d)
  | .rl_E => .rot .rl (.reg .e)
  | .rl_H => .rot .rl (.reg .h)
  | .rl_L => .rot .rl (.reg .l)
  | .rl_atHL => .rot .rl .atHL
  | .rl_A => .rot .rl (.reg .a)
  | .rr_B => .rot .rr (.reg .b)
  | .rr_C => .rot .rr (.reg .c)
  | .rr_D => .rot .rr (.reg .d)
  | .rr_E => .rot .rr (.reg .e)
  | .rr_H => .rot .rr (.reg .h)
  | .rr_L => .rot .rr (.reg .l)
  | .rr_atHL => .rot .rr .atHL
  | .rr_A => .rot .rr (.reg .a)
  | .sla_B => .rot .sla (.reg .b)
  | .sla_C => .rot .sla (.reg .c)
  | .sla_D => .rot .sla (.reg .d)
  | .sla_E => .rot .sla (.reg .e)
  | .sla_H => .rot .sla (.reg .h)
  | .sla_L => .rot .sla (.reg .l)
  | .sla_atHL => .rot .sla .atHL
  | .sla_A => .rot .sla (.reg .a)
  | .sra_B => .rot .sra (.reg .b)
  | .sra_C => .rot .sra (.reg .c)
  | .sra_D => .rot .sra (.reg .d)
  | .sra_E => .rot .sra (.reg .e)
  | .sra_H => .rot .sra (.reg .h)
  | .sra_L => .rot .sra (.reg .l)
  | .sra_atHL => .rot .sra .atHL
  | .sra_A => .rot .sra (.reg .a)
  | .swap_B => .rot .swap (.reg .b)
  | .swap_C => .rot .swap (.reg .c)
  | .swap_D => .rot .swap (.reg .d)
  | .swap_E => .rot .swap (.reg .e)
  | .swap_H => .rot .swap (.reg .h)
  | .swap_L => .rot .swap (.reg .l)
  | .swap_atHL => .rot .swap .atHL
  | .swap_A => .rot .swap (.reg .a)
  | .srl_B => .rot .srl (.reg .b)
  | .srl_C => .rot .srl (.reg .c)
  | .srl_D => .rot .srl (.reg .d)
  | .srl_E => .rot .srl (.reg .e)
  | .srl_H => .rot .srl (.reg .h)
  | .srl_L => .rot .srl (.reg .l)
  | .srl_atHL => .rot .srl .atHL
  | .srl_A => .rot .srl (.reg .a)
  | .bit_0_B => .bit 0 (.reg .b)
  | .bit_0_C => .bit 0 (.reg .c)
  | .bit_0_D => .bit 0 (.reg .d)
  | .bit_0_E => .bit 0 (.reg .e)
  | .bit_0_H => .bit 0 (.reg .h)
  | .bit_0_L => .bit 0 (.reg .l)
  | .bit_0_atHL => .bit 0 .atHL
  | .bit_0_A => .bit 0 (.reg .a)
  | .bit_1_B => .bit 1 (.reg .b)
  | .bit_1_C => .bit 1 (.reg .c)
  | .bit_1_D => .bit 1 (.reg .d)
  | .bit_1_E => .bit 1 (.reg .e)
  | .bit_1_H => .bit 1 (.reg .h)
  | .bit_1_L => .bit 1 (.reg .l)
  | .bit_1_atHL => .bit 1 .atHL
  | .bit_1_A => .bit 1 (.reg .a)
  | .bit_2_B => .bit 2 (.reg .b)
  | .bit_2_C => .bit 2 (.reg .c)
  | .bit_2_D => .bit 2 (.reg .d)
  | .bit_2_E => .bit 2 (.reg .e)
  | .bit_2_H => .bit 2 (.reg .h)
  | .bit_2_L => .bit 2 (.reg .l)
  | .bit_2_atHL => .bit 2 .atHL
  | .bit_2_A => .bit 2 (.reg .a)
  | .bit_3_B => .bit 3 (.reg .b)
  | .bit_3_C => .bit 3 (.reg .c)
  | .bit_3_D => .bit 3 (.reg .d)
  | .bit_3_E => .bit 3 (.reg .e)
  | .bit_3_H => .bit 3 (.reg .h)
  | .bit_3_L => .bit 3 (.reg .l)
  | .bit_3_atHL => .bit 3 .atHL
  | .bit_3_A => .bit 3 (.reg .a)
  | .bit_4_B => .bit 4 (.reg .b)
  | .bit_4_C => .bit 4 (.reg .c)
  | .bit_4_D => .bit 4 (.reg .d)
  | .bit_4_E => .bit 4 (.reg .e)
  | .bit_4_H => .bit 4 (.reg .h)
  | .bit_4_L => .bit 4 (.reg .l)
  | .bit_4_atHL => .bit 4 .atHL
  | .bit_4_A => .bit 4 (.reg .a)
  | .bit_5_B => .bit 5 (.reg .b)
  | .bit_5_C => .bit 5 (.reg .c)
  | .bit_5_D => .bit 5 (.reg .d)
  | .bit_5_E => .bit 5 (.reg .e)
  | .bit_5_H => .bit 5 (.reg .h)
  | .bit_5_L => .bit 5 (.reg .l)
  | .bit_5_atHL => .bit 5 .atHL
  | .bit_5_A => .bit 5 (.reg .a)
  | .bit_6_B => .bit 6 (.reg .b)
  | .bit_6_C => .bit 6 (.reg .c)
  | .bit_6_D => .bit 6 (.reg .d)
  | .bit_6_E => .bit 6 (.reg .e)
  | .bit_6_H => .bit 6 (.reg .h)
  | .bit_6_L => .bit 6 (.reg .l)
  | .bit_6_atHL => .bit 6 .atHL
  | .bit_6_A => .bit 6 (.reg .a)
  | .bit_7_B => .bit 7 (.reg .b)
  | .bit_7_C => .bit 7 (.reg .c)
  | .bit_7_D => .bit 7 (.reg .d)
  | .bit_7_E => .bit 7 (.reg .e)
  | .bit_7_H => .bit 7 (.reg .h)
  | .bit_7_L => .bit 7 (.reg .l)
  | .bit_7_atHL => .bit 7 .atHL
  | .bit_7_A => .bit 7 (.reg .a)
  | .res_0_B => .res 0 (.reg .b)
  | .res_0_C => .res 0 (.reg .c)
  | .res_0_D => .res 0 (.reg .d)
  | .res_0_E => .res 0 (.reg .e)
  | .res_0_H => .res 0 (.reg .h)
  | .res_0_L => .res 0 (.reg .l)
  | .res_0_atHL => .res 0 .atHL
  | .res_0_A => .res 0 (.reg .a)
  | .res_1_B => .res 1 (.reg .b)
  | .res_1_C => .res 1 (.reg .c)
  | .res_1_D => .res 1 (.reg .d)
  | .res_1_E => .res 1 (.reg .e)
  | .res_1_H => .res 1 (.reg .h)
  | .res_1_L => .res 1 (.reg .l)
  | .res_1_atHL => .res 1 .atHL
  | .res_1_A => .res 1 (.reg .a)
  | .res_2_B => .res 2 (.reg .b)
  | .res_2_C => .res 2 (.reg .c)
  | .res_2_D => .res 2 (.reg .d)
  | .res_2_E => .res 2 (.reg .e)
  | .res_2_H => .res 2 (.reg .h)
  | .res_2_L => .res 2 (.reg .l)
  | .res_2_atHL => .res 2 .atHL
  | .res_2_A => .res 2 (.reg .a)
  | .res_3_B => .res 3 (.reg .b)
  | .res_3_C => .res 3 (.reg .c)
  | .res_3_D => .res 3 (.reg .d)
  | .res_3_E => .res 3 (.reg .e)
  | .res_3_H => .res 3 (.reg .h)
  | .res_3_L => .res 3 (.reg .l)
  | .res_3_atHL => .res 3 .atHL
  | .res_3_A => .res 3 (.reg .a)
  | .res_4_B => .res 4 (.reg .b)
  | .res_4_C => .res 4 (.reg .c)
  | .res_4_D => .res 4 (.reg .d)
  | .res_4_E => .res 4 (.reg .e)
  | .res_4_H => .res 4 (.reg .h)
  | .res_4_L => .res 4 (.reg .l)
  | .res_4_atHL => .res 4 .atHL
  | .res_4_A => .res 4 (.reg .a)
  | .res_5_B => .res 5 (.reg .b)
  | .res_5_C => .res 5 (.reg .c)
  | .res_5_D => .res 5 (.reg .d)
  | .res_5_E => .res 5 (.reg .e)
  | .res_5_H => .res 5 (.reg .h)
  | .res_5_L => .res 5 (.reg .l)
  | .res_5_atHL => .res 5 .atHL
  | .res_5_A => .res 5 (.reg .a)
  | .res_6_B => .res 6 (.reg .b)
  | .res_6_C => .res 6 (.reg .c)
  | .res_6_D => .res 6 (.reg .d)
  | .res_6_E => .res 6 (.reg .e)
  | .res_6_H => .res 6 (.reg .h)
  | .res_6_L => .res 6 (.reg .l)
  | .res_6_atHL => .res 6 .atHL
  | .res_6_A => .res 6 (.reg .a)
  | .res_7_B => .res 7 (.reg .b)
  | .res_7_C => .res 7 (.reg .c)
  | .res_7_D => .res 7 (.reg .d)
  | .res_7_E => .res 7 (.reg .e)
  | .res_7_H => .res 7 (.reg .h)
  | .res_7_L => .res 7 (.reg .l)
  | .res_7_atHL => .res 7 .atHL
  | .res_7_A => .res 7 (.reg .a)
  | .set_0_B => .set 0 (.reg .b)
  | .set_0_C => .set 0 (.reg .c)
  | .set_0_D => .set 0 (.reg .d)
  | .set_0_E => .set 0 (.reg .e)
  | .set_0_H => .set 0 (.reg .h)
  | .set_0_L => .set 0 (.reg .l)
  | .set_0_atHL => .set 0 .atHL
  | .set_0_A => .set 0 (.reg .a)
  | .set_1_B => .set 1 (.reg .b)
  | .set_1_C => .set 1 (.reg .c)
  | .set_1_D => .set 1 (.reg .d)
  | .set_1_E => .set 1 (.reg .e)
  | .set_1_H => .set 1 (.reg .h)
  | .set_1_L => .set 1 (.reg .l)
  | .set_1_atHL => .set 1 .atHL
  | .set_1_A => .set 1 (.reg .a)
  | .set_2_B => .set 2 (.reg .b)
  | .set_2_C => .set 2 (.reg .c)
  | .set_2_D => .set 2 (.reg .d)
  | .set_2_E => .set 2 (.reg .e)
  | .set_2_H => .set 2 (.reg .h)
  | .set_2_L => .set 2 (.reg .l)
  | .set_2_atHL => .set 2 .atHL
  | .set_2_A => .set 2 (.reg .a)
  | .set_3_B => .set 3 (.reg .b)
  | .set_3_C => .set 3 (.reg .c)
  | .set_3_D => .set 3 (.reg .d)
  | .set_3_E => .set 3 (.reg .e)
  | .set_3_H => .set 3 (.reg .h)
  | .set_3_L => .set 3 (.reg .l)
  | .set_3_atHL => .set 3 .atHL
  | .set_3_A => .set 3 (.reg .a)
  | .set_4_B => .set 4 (.reg .b)
  | .set_4_C => .set 4 (.reg .c)
  | .set_4_D => .set 4 (.reg .d)
  | .set_4_E => .set 4 (.reg .e)
  | .set_4_H => .set 4 (.reg .h)
  | .set_4_L => .set 4 (.reg .l)
  | .set_4_atHL => .set 4 .atHL
  | .set_4_A => .set 4 (.reg .a)
  | .set_5_B => .set 5 (.reg .b)
  | .set_5_C => .set 5 (.reg .c)
  | .set_5_D => .set 5 (.reg .d)
  | .set_5_E => .set 5 (.reg .e)
  | .set_5_H => .set 5 (.reg .h)
  | .set_5_L => .set 5 (.reg .l)
  | .set_5_atHL => .set 5 .atHL
  | .set_5_A => .set 5 (.reg .a)
  | .set_6_B => .set 6 (.reg .b)
  | .set_6_C => .set 6 (.reg .c)
  | .set_6_D => .set 6 (.reg .d)
  | .set_6_E => .set 6 (.reg .e)
  | .set_6_H => .set 6 (.reg .h)
  | .set_6_L => .set 6 (.reg .l)
  | .set_6_atHL => .set 6 .atHL
  | .set_6_A => .set 6 (.reg .a)
  | .set_7_B => .set 7 (.reg .b)
  | .set_7_C => .set 7 (.reg .c)
  | .set_7_D => .set 7 (.reg .d)
  | .set_7_E => .set 7 (.reg .e)
  | .set_7_H => .set 7 (.reg .h)
  | .set_7_L => .set 7 (.reg .l)
  | .set_7_atHL => .set 7 .atHL
  | .set_7_A => .set 7 (.reg .a)

namespace Machine

/-! `exec` of each group is one shared operation. -/

theorem exec_ld (dst src : R8) (s : State) : exec (Instr.ld (.reg dst) (.reg src)) s = loadReg dst src s := by
  cases dst <;> cases src <;> rfl
theorem exec_ldFromHL (dst : R8) (s : State) : exec (Instr.ld (.reg dst) .atHL) s = loadRegAtHL dst s := by
  cases dst <;> rfl
theorem exec_ldToHL (src : R8) (s : State) : exec (Instr.ld .atHL (.reg src)) s = storeRegAtHL src s := by
  cases src <;> rfl
theorem exec_ldImm (r : R8) (n : Byte) (s : State) : exec (Instr.ldImm (.reg r) n) s = loadRegImm r n s := by
  cases r <;> rfl
theorem exec_inc (m : Rm) (s : State) : exec (Instr.inc m) s = incOperand m s := by
  (rcases m with ⟨⟨⟩⟩ | _) <;> rfl
theorem exec_dec (m : Rm) (s : State) : exec (Instr.dec m) s = decOperand m s := by
  (rcases m with ⟨⟨⟩⟩ | _) <;> rfl
theorem exec_alu (op : AluOp) (m : Rm) (s : State) : exec (Instr.alu op m) s = aluOperand op m s := by
  cases op <;> (rcases m with ⟨⟨⟩⟩ | _) <;> rfl
theorem exec_aluImm (op : AluOp) (n : Byte) (s : State) : exec (Instr.aluImm op n) s = aluImmediate op n s := by
  cases op <;> rfl
theorem exec_ldPair (p : Rp) (nn : Word) (s : State) : exec (Instr.ldPair p nn) s = loadPairImm p nn s := by
  cases p <;> rfl
theorem exec_addHL (p : Rp) (s : State) : exec (Instr.addHL p) s = addPairToHL p s := by
  cases p <;> rfl
theorem exec_incPair (p : Rp) (s : State) : exec (Instr.incPair p) s = incPair p s := by
  cases p <;> rfl
theorem exec_decPair (p : Rp) (s : State) : exec (Instr.decPair p) s = decPair p s := by
  cases p <;> rfl
theorem exec_pop (p : Rp2) (s : State) : exec (Instr.pop p) s = popPair p s := by
  cases p <;> rfl
theorem exec_push (p : Rp2) (s : State) : exec (Instr.push p) s = pushPair p s := by
  cases p <;> rfl
theorem exec_jrCond (k : Cond) (e : Byte) (s : State) : exec (Instr.jrCond k e) s = jumpRelativeIf k e s := by
  cases k <;> rfl
theorem exec_jpCond (k : Cond) (nn : Word) (s : State) : exec (Instr.jpCond k nn) s = jumpIf k nn s := by
  cases k <;> rfl
theorem exec_callCond (k : Cond) (nn : Word) (s : State) : exec (Instr.callCond k nn) s = callIf k nn s := by
  cases k <;> rfl
theorem exec_retCond (k : Cond) (s : State) : exec (Instr.retCond k) s = returnIf k s := by
  cases k <;> rfl
theorem exec_rst (y : Fin 8) (s : State) : exec (Instr.rst y) s = restart y s := by
  fin_cases y <;> rfl
theorem exec_rot (k : RotOp) (m : Rm) (s : State) : exec (Instr.rot k m) s = rotOperand k m s := by
  cases k <;> (rcases m with ⟨⟨⟩⟩ | _) <;> rfl
theorem exec_bit (b : Fin 8) (m : Rm) (s : State) : exec (Instr.bit b m) s = bitOperand b m s := by
  fin_cases b <;> (rcases m with ⟨⟨⟩⟩ | _) <;> rfl
theorem exec_res (b : Fin 8) (m : Rm) (s : State) : exec (Instr.res b m) s = resOperand b m s := by
  fin_cases b <;> (rcases m with ⟨⟨⟩⟩ | _) <;> rfl
theorem exec_set (b : Fin 8) (m : Rm) (s : State) : exec (Instr.set b m) s = setOperand b m s := by
  fin_cases b <;> (rcases m with ⟨⟨⟩⟩ | _) <;> rfl
theorem exec_nop (s : State) :
    exec .nop s = finish 4 s := rfl
theorem exec_ld_atBC_A (s : State) :
    exec .ld_atBC_A s = storeA 8 (s.regs.get16 .bc) s := rfl
theorem exec_rlca (s : State) :
    exec .rlca s = rotA .rlc s := rfl
theorem exec_ld_atNn_SP (nn : Word) (s : State) :
    exec (.ld_atNn_SP nn) s = finish 20 (memWrite16 nn s.regs.sp s) := rfl
theorem exec_ld_A_atBC (s : State) :
    exec .ld_A_atBC s = loadA 8 (s.regs.get16 .bc) s := rfl
theorem exec_rrca (s : State) :
    exec .rrca s = rotA .rrc s := rfl
theorem exec_stop (x : Byte) (s : State) :
    exec (.stop x) s = stopWith x s := rfl
theorem exec_ld_atDE_A (s : State) :
    exec .ld_atDE_A s = storeA 8 (s.regs.get16 .de) s := rfl
theorem exec_rla (s : State) :
    exec .rla s = rotA .rl s := rfl
theorem exec_jr_e (e : Byte) (s : State) :
    exec (.jr_e e) s = finish 12 (jumpRelative e s) := rfl
theorem exec_ld_A_atDE (s : State) :
    exec .ld_A_atDE s = loadA 8 (s.regs.get16 .de) s := rfl
theorem exec_rra (s : State) :
    exec .rra s = rotA .rr s := rfl
theorem exec_ld_atHLi_A (s : State) :
    exec .ld_atHLi_A s = storeAStepHL 1 s := rfl
theorem exec_daa (s : State) :
    exec .daa s = daaA s := rfl
theorem exec_ld_A_atHLi (s : State) :
    exec .ld_A_atHLi s = loadAStepHL 1 s := rfl
theorem exec_cpl (s : State) :
    exec .cpl s = complementA s := rfl
theorem exec_ld_atHLd_A (s : State) :
    exec .ld_atHLd_A s = storeAStepHL (-1) s := rfl
theorem exec_ld_atHL_n (n : Byte) (s : State) :
    exec (.ld_atHL_n n) s = storeImmAtHL n s := rfl
theorem exec_scf (s : State) :
    exec .scf s = setCarry s := rfl
theorem exec_ld_A_atHLd (s : State) :
    exec .ld_A_atHLd s = loadAStepHL (-1) s := rfl
theorem exec_ccf (s : State) :
    exec .ccf s = complementCarry s := rfl
theorem exec_halt (s : State) :
    exec .halt s = finish 4 { s with halted := true } := rfl
theorem exec_jp_nn (nn : Word) (s : State) :
    exec (.jp_nn nn) s = finish 16 (s.setPc nn) := rfl
theorem exec_ret (s : State) :
    exec .ret s = finish 16 (returnTo s) := rfl
theorem exec_prefixCb (s : State) :
    exec .prefixCb s = execCbEntry (fetch8 s).1 (fetch8 s).2 := rfl
theorem exec_call_nn (nn : Word) (s : State) :
    exec (.call_nn nn) s = finish 24 (callTo nn s) := rfl
theorem exec_invalid_D3 (s : State) :
    exec .invalid_D3 s = raiseInvalidOpcode (.plain 0xD3) (s.regs.pc - 1) s := rfl
theorem exec_reti (s : State) :
    exec .reti s = finish 16 (returnFromInterrupt s) := rfl
theorem exec_invalid_DB (s : State) :
    exec .invalid_DB s = raiseInvalidOpcode (.plain 0xDB) (s.regs.pc - 1) s := rfl
theorem exec_invalid_DD (s : State) :
    exec .invalid_DD s = raiseInvalidOpcode (.plain 0xDD) (s.regs.pc - 1) s := rfl
theorem exec_ldh_atN_A (n : Byte) (s : State) :
    exec (.ldh_atN_A n) s = storeA 12 (highPage n) s := rfl
theorem exec_ld_atC_A (s : State) :
    exec .ld_atC_A s = storeA 8 (highPage s.regs.c) s := rfl
theorem exec_invalid_E3 (s : State) :
    exec .invalid_E3 s = raiseInvalidOpcode (.plain 0xE3) (s.regs.pc - 1) s := rfl
theorem exec_invalid_E4 (s : State) :
    exec .invalid_E4 s = raiseInvalidOpcode (.plain 0xE4) (s.regs.pc - 1) s := rfl
theorem exec_add_SP_e (e : Byte) (s : State) :
    exec (.add_SP_e e) s = finish 16 ((s.setFlags (addSpe s.regs.sp e).2).setSp (addSpe s.regs.sp e).1) := rfl
theorem exec_jp_HL (s : State) :
    exec .jp_HL s = finish 4 (s.setPc s.hl) := rfl
theorem exec_ld_atNn_A (nn : Word) (s : State) :
    exec (.ld_atNn_A nn) s = storeA 16 nn s := rfl
theorem exec_invalid_EB (s : State) :
    exec .invalid_EB s = raiseInvalidOpcode (.plain 0xEB) (s.regs.pc - 1) s := rfl
theorem exec_invalid_EC (s : State) :
    exec .invalid_EC s = raiseInvalidOpcode (.plain 0xEC) (s.regs.pc - 1) s := rfl
theorem exec_invalid_ED (s : State) :
    exec .invalid_ED s = raiseInvalidOpcode (.plain 0xED) (s.regs.pc - 1) s := rfl
theorem exec_ldh_A_atN (n : Byte) (s : State) :
    exec (.ldh_A_atN n) s = loadA 12 (highPage n) s := rfl
theorem exec_ld_A_atC (s : State) :
    exec .ld_A_atC s = loadA 8 (highPage s.regs.c) s := rfl
theorem exec_di (s : State) :
    exec .di s = finish 4 { s with ime := false, imeSched := false } := rfl
theorem exec_invalid_F4 (s : State) :
    exec .invalid_F4 s = raiseInvalidOpcode (.plain 0xF4) (s.regs.pc - 1) s := rfl
theorem exec_ld_HL_SPe (e : Byte) (s : State) :
    exec (.ld_HL_SPe e) s = finish 12 ((s.setFlags (addSpe s.regs.sp e).2).set16 .hl (addSpe s.regs.sp e).1) := rfl
theorem exec_ld_SP_HL (s : State) :
    exec .ld_SP_HL s = finish 8 (s.setSp s.hl) := rfl
theorem exec_ld_A_atNn (nn : Word) (s : State) :
    exec (.ld_A_atNn nn) s = loadA 16 nn s := rfl
theorem exec_ei (s : State) :
    exec .ei s = finish 4 { s with imeSched := true } := rfl
theorem exec_invalid_FC (s : State) :
    exec .invalid_FC s = raiseInvalidOpcode (.plain 0xFC) (s.regs.pc - 1) s := rfl
theorem exec_invalid_FD (s : State) :
    exec .invalid_FD s = raiseInvalidOpcode (.plain 0xFD) (s.regs.pc - 1) s := rfl

end Machine

end Sys2Proof
end

