-- ==== Sys2Proof/Laws/Exec.lean ====
section
/-!
SUPPORT. One lemma for each shared instruction operation: it answers a next state, with the T-cycles it
reports, and keeps what `Keeps` lists. The eight instructions that write the control flags or stop
the machine have equations of their own in Laws/Groups.lean.
-/

namespace Sys2Proof.Machine

/-- The operation answers a next state that keeps what `Keeps` lists and reports `n` T-cycles. -/
def Completes (s : State) (r : Result) (n : Nat) : Prop :=
  ∃ t, r = .next t ∧ Keeps s t ∧ t.report = some (.ok n)

theorem Keeps.withReport {s t : State} (h : Keeps s t) (x : Option StepResult) :
    Keeps s { t with report := x } :=
  ⟨h.ime, h.imeSched, h.halted, h.fault, h.rom, h.romLen, h.romBanks, h.ramSize, h.boot,
    h.kind, h.bootMapped, h.memWf, h.fLowZero⟩

theorem Keeps.completes {s t : State} (h : Keeps s t) (n : Nat) : Completes s (finish n t) n :=
  ⟨_, rfl, h.withReport _, rfl⟩

/-! ### Loads, stores and the stack -/

theorem loadReg_completes (dst src : R8) (s : State) : Completes s (loadReg dst src s) 4 :=
  (Keeps.setR s _ _).completes _

theorem loadRegImm_completes (dst : R8) (n : Byte) (s : State) :
    Completes s (loadRegImm dst n s) 8 :=
  (Keeps.setR s _ _).completes _

theorem loadRegAtHL_completes (dst : R8) (s : State) : Completes s (loadRegAtHL dst s) 8 :=
  ((Keeps.afterRead s _).trans (Keeps.setR _ _ _)).completes _

theorem storeRegAtHL_completes (src : R8) (s : State) : Completes s (storeRegAtHL src s) 8 :=
  (Keeps.memWrite s _ _).completes _

theorem storeImmAtHL_completes (n : Byte) (s : State) : Completes s (storeImmAtHL n s) 12 :=
  (Keeps.memWrite s _ _).completes _

theorem loadA_completes (cycles : Nat) (a : Word) (s : State) :
    Completes s (loadA cycles a s) cycles :=
  ((Keeps.afterRead s _).trans (Keeps.setR _ _ _)).completes _

theorem storeA_completes (cycles : Nat) (a : Word) (s : State) :
    Completes s (storeA cycles a s) cycles :=
  (Keeps.memWrite s _ _).completes _

theorem loadAStepHL_completes (step : Word) (s : State) : Completes s (loadAStepHL step s) 8 :=
  (((Keeps.afterRead s _).trans (Keeps.setR _ _ _)).trans (Keeps.set16 _ _ _)).completes _

theorem storeAStepHL_completes (step : Word) (s : State) : Completes s (storeAStepHL step s) 8 :=
  ((Keeps.memWrite s _ _).trans (Keeps.set16 _ _ _)).completes _

theorem loadPairImm_completes (p : Rp) (nn : Word) (s : State) :
    Completes s (loadPairImm p nn s) 12 :=
  (Keeps.set16 s _ _).completes _

theorem pushPair_completes (p : Rp2) (s : State) : Completes s (pushPair p s) 16 :=
  (Keeps.push16 s _).completes _

theorem popPair_completes (p : Rp2) (s : State) : Completes s (popPair p s) 12 :=
  ((Keeps.pop16 s).trans (Keeps.set16 _ _ _)).completes _

/-! ### Arithmetic, logic, rotates and bits -/

theorem Keeps.applyAlu (op : AluOp) (v : Byte) (s : State) : Keeps s (applyAlu op v s) :=
  (Keeps.setR s _ _).trans (Keeps.setFlags _ _)

theorem aluOperand_completes (op : AluOp) (m : Rm) (s : State) :
    Completes s (aluOperand op m s) (formCycles m 4 8) :=
  ((Keeps.readRm s m).trans (Keeps.applyAlu _ _ _)).completes _

theorem aluImmediate_completes (op : AluOp) (n : Byte) (s : State) :
    Completes s (aluImmediate op n s) 8 :=
  (Keeps.applyAlu op n s).completes _

/-- A byte read, changed and written back, with new flags. -/
theorem Keeps.modify (m : Rm) (v : Byte) (fl : Flags) (s : State) :
    Keeps s ((Machine.writeRm m v (Machine.readRm m s).2).setFlags fl) :=
  ((Keeps.readRm s m).trans (Keeps.writeRm _ m v)).trans (Keeps.setFlags _ _)

theorem incOperand_completes (m : Rm) (s : State) :
    Completes s (incOperand m s) (formCycles m 4 12) :=
  (Keeps.modify m _ _ s).completes _

theorem decOperand_completes (m : Rm) (s : State) :
    Completes s (decOperand m s) (formCycles m 4 12) :=
  (Keeps.modify m _ _ s).completes _

theorem rotOperand_completes (k : RotOp) (m : Rm) (s : State) :
    Completes s (rotOperand k m s) (formCycles m 8 16) :=
  (Keeps.modify m _ _ s).completes _

theorem bitOperand_completes (b : Fin 8) (m : Rm) (s : State) :
    Completes s (bitOperand b m s) (formCycles m 8 12) :=
  ((Keeps.readRm s m).trans (Keeps.setFlags _ _)).completes _

theorem resOperand_completes (b : Fin 8) (m : Rm) (s : State) :
    Completes s (resOperand b m s) (formCycles m 8 16) :=
  ((Keeps.readRm s m).trans (Keeps.writeRm _ m _)).completes _

theorem setOperand_completes (b : Fin 8) (m : Rm) (s : State) :
    Completes s (setOperand b m s) (formCycles m 8 16) :=
  ((Keeps.readRm s m).trans (Keeps.writeRm _ m _)).completes _

theorem rotA_completes (k : RotOp) (s : State) : Completes s (rotA k s) 4 :=
  ((Keeps.setR s _ _).trans (Keeps.setFlags _ _)).completes _

theorem daaA_completes (s : State) : Completes s (daaA s) 4 :=
  ((Keeps.setR s _ _).trans (Keeps.setFlags _ _)).completes _

theorem complementA_completes (s : State) : Completes s (complementA s) 4 :=
  ((Keeps.setR s _ _).trans (Keeps.setFlags _ _)).completes _

theorem setCarry_completes (s : State) : Completes s (setCarry s) 4 :=
  (Keeps.setFlags s _).completes _

theorem complementCarry_completes (s : State) : Completes s (complementCarry s) 4 :=
  (Keeps.setFlags s _).completes _

theorem addPairToHL_completes (p : Rp) (s : State) : Completes s (addPairToHL p s) 8 :=
  ((Keeps.set16 s _ _).trans (Keeps.setFlags _ _)).completes _

theorem incPair_completes (p : Rp) (s : State) : Completes s (incPair p s) 8 :=
  (Keeps.set16 s _ _).completes _

theorem decPair_completes (p : Rp) (s : State) : Completes s (decPair p s) 8 :=
  (Keeps.set16 s _ _).completes _

/-! ### Control transfer -/

theorem Keeps.callTo (s : State) (nn : Word) : Keeps s (callTo nn s) :=
  (Keeps.push16 s _).trans (Keeps.setPc _ _)

theorem Keeps.returnTo (s : State) : Keeps s (returnTo s) :=
  (Keeps.pop16 s).trans (Keeps.setPc _ _)

theorem jumpIf_completes (k : Cond) (nn : Word) (s : State) :
    Completes s (jumpIf k nn s) (if condHolds k s.regs.flags then 16 else 12) := by
  unfold jumpIf
  split
  · exact (Keeps.setPc s _).completes _
  · exact (Keeps.refl s).completes _

theorem jumpRelativeIf_completes (k : Cond) (e : Byte) (s : State) :
    Completes s (jumpRelativeIf k e s) (if condHolds k s.regs.flags then 12 else 8) := by
  unfold jumpRelativeIf
  split
  · exact (Keeps.setPc s _).completes _
  · exact (Keeps.refl s).completes _

theorem callIf_completes (k : Cond) (nn : Word) (s : State) :
    Completes s (callIf k nn s) (if condHolds k s.regs.flags then 24 else 12) := by
  unfold callIf
  split
  · exact (Keeps.callTo s _).completes _
  · exact (Keeps.refl s).completes _

theorem returnIf_completes (k : Cond) (s : State) :
    Completes s (returnIf k s) (if condHolds k s.regs.flags then 20 else 8) := by
  unfold returnIf
  split
  · exact (Keeps.returnTo s).completes _
  · exact (Keeps.refl s).completes _

theorem restart_completes (y : Fin 8) (s : State) : Completes s (restart y s) 16 :=
  (Keeps.callTo s _).completes _

/-- The CB entry of any second byte completes (R174, R398). -/
theorem execCbEntry_completes (op2 : Byte) (s : State) :
    ∃ n, Completes s (execCbEntry op2 s) n := by
  unfold execCbEntry
  split
  · exact ⟨_, rotOperand_completes _ _ s⟩
  · exact ⟨_, bitOperand_completes _ _ s⟩
  · exact ⟨_, resOperand_completes _ _ s⟩
  · exact ⟨_, setOperand_completes _ _ s⟩

/-! ### Every instruction -/

/-- What `exec` can do: it completes and keeps what `Keeps` lists, or it is one of the instructions that write
the control flags, or an INVALID slot. -/
inductive ExecForm (s : State) : Instr → Prop where
  | completes (i : Instr) (n : Nat) (h : Completes s (exec i s) n) : ExecForm s i
  | halts (i : Instr) (hi : i = .halt ∨ ∃ x, i = .stop x)
      (h : exec i s = finish 4 { s with halted := true }) : ExecForm s i
  | disables (h : exec .di s = finish 4 { s with ime := false, imeSched := false }) : ExecForm s .di
  | enables (h : exec .ei s = finish 4 { s with imeSched := true }) : ExecForm s .ei
  | returns (h : exec .reti s = finish 16 (returnFromInterrupt s)) : ExecForm s .reti
  | stops (i : Instr) (op : Byte) (hi : encode i = [op])
      (hop : op ∈ [0xD3, 0xDB, 0xDD, 0xE3, 0xE4, 0xEB, 0xEC, 0xED, 0xF4, 0xFC, 0xFD])
      (h : exec i s = raiseInvalidOpcode (.plain op) (s.regs.pc - 1) s) : ExecForm s i

/-- Every instruction has one of the forms. -/
theorem exec_forms (i : Instr) (s : State) : ExecForm s i := by
  cases i.group
  case ld => exact .completes _ _ (by rw [exec_ld]; exact loadReg_completes _ _ s)
  case ldFromHL => exact .completes _ _ (by rw [exec_ldFromHL]; exact loadRegAtHL_completes _ s)
  case ldToHL => exact .completes _ _ (by rw [exec_ldToHL]; exact storeRegAtHL_completes _ s)
  case ldImm => exact .completes _ _ (by rw [exec_ldImm]; exact loadRegImm_completes _ _ s)
  case inc => exact .completes _ _ (by rw [exec_inc]; exact incOperand_completes _ s)
  case dec => exact .completes _ _ (by rw [exec_dec]; exact decOperand_completes _ s)
  case alu => exact .completes _ _ (by rw [exec_alu]; exact aluOperand_completes _ _ s)
  case aluImm => exact .completes _ _ (by rw [exec_aluImm]; exact aluImmediate_completes _ _ s)
  case ldPair => exact .completes _ _ (by rw [exec_ldPair]; exact loadPairImm_completes _ _ s)
  case addHL => exact .completes _ _ (by rw [exec_addHL]; exact addPairToHL_completes _ s)
  case incPair => exact .completes _ _ (by rw [exec_incPair]; exact incPair_completes _ s)
  case decPair => exact .completes _ _ (by rw [exec_decPair]; exact decPair_completes _ s)
  case pop => exact .completes _ _ (by rw [exec_pop]; exact popPair_completes _ s)
  case push => exact .completes _ _ (by rw [exec_push]; exact pushPair_completes _ s)
  case jrCond => exact .completes _ _ (by rw [exec_jrCond]; exact jumpRelativeIf_completes _ _ s)
  case jpCond => exact .completes _ _ (by rw [exec_jpCond]; exact jumpIf_completes _ _ s)
  case callCond => exact .completes _ _ (by rw [exec_callCond]; exact callIf_completes _ _ s)
  case retCond => exact .completes _ _ (by rw [exec_retCond]; exact returnIf_completes _ s)
  case rst => exact .completes _ _ (by rw [exec_rst]; exact restart_completes _ s)
  case rot => exact .completes _ _ (by rw [exec_rot]; exact rotOperand_completes _ _ s)
  case bit => exact .completes _ _ (by rw [exec_bit]; exact bitOperand_completes _ _ s)
  case res => exact .completes _ _ (by rw [exec_res]; exact resOperand_completes _ _ s)
  case set => exact .completes _ _ (by rw [exec_set]; exact setOperand_completes _ _ s)
  case nop => exact .completes _ _ (by rw [exec_nop]; exact (Keeps.refl s).completes _)
  case ld_atBC_A => exact .completes _ _ (by rw [exec_ld_atBC_A]; exact storeA_completes _ _ s)
  case rlca => exact .completes _ _ (by rw [exec_rlca]; exact rotA_completes _ s)
  case ld_atNn_SP => exact .completes _ _ (by rw [exec_ld_atNn_SP]; exact (Keeps.memWrite16 s _ _).completes _)
  case ld_A_atBC => exact .completes _ _ (by rw [exec_ld_A_atBC]; exact loadA_completes _ _ s)
  case rrca => exact .completes _ _ (by rw [exec_rrca]; exact rotA_completes _ s)
  case stop x => exact .halts _ (.inr ⟨x, rfl⟩) (exec_stop x s)
  case ld_atDE_A => exact .completes _ _ (by rw [exec_ld_atDE_A]; exact storeA_completes _ _ s)
  case rla => exact .completes _ _ (by rw [exec_rla]; exact rotA_completes _ s)
  case jr_e => exact .completes _ _ (by rw [exec_jr_e]; exact (Keeps.setPc s _).completes _)
  case ld_A_atDE => exact .completes _ _ (by rw [exec_ld_A_atDE]; exact loadA_completes _ _ s)
  case rra => exact .completes _ _ (by rw [exec_rra]; exact rotA_completes _ s)
  case ld_atHLi_A => exact .completes _ _ (by rw [exec_ld_atHLi_A]; exact storeAStepHL_completes _ s)
  case daa => exact .completes _ _ (by rw [exec_daa]; exact daaA_completes s)
  case ld_A_atHLi => exact .completes _ _ (by rw [exec_ld_A_atHLi]; exact loadAStepHL_completes _ s)
  case cpl => exact .completes _ _ (by rw [exec_cpl]; exact complementA_completes s)
  case ld_atHLd_A => exact .completes _ _ (by rw [exec_ld_atHLd_A]; exact storeAStepHL_completes _ s)
  case ld_atHL_n => exact .completes _ _ (by rw [exec_ld_atHL_n]; exact storeImmAtHL_completes _ s)
  case scf => exact .completes _ _ (by rw [exec_scf]; exact setCarry_completes s)
  case ld_A_atHLd => exact .completes _ _ (by rw [exec_ld_A_atHLd]; exact loadAStepHL_completes _ s)
  case ccf => exact .completes _ _ (by rw [exec_ccf]; exact complementCarry_completes s)
  case halt => exact .halts _ (.inl rfl) (exec_halt s)
  case jp_nn => exact .completes _ _ (by rw [exec_jp_nn]; exact (Keeps.setPc s _).completes _)
  case ret => exact .completes _ _ (by rw [exec_ret]; exact (Keeps.returnTo s).completes _)
  case prefixCb =>
    obtain ⟨n, t, h, k, r⟩ := execCbEntry_completes (fetch8 s).1 (fetch8 s).2
    exact .completes _ n ⟨t, (exec_prefixCb s).trans h, (Keeps.fetch8 s).trans k, r⟩
  case call_nn => exact .completes _ _ (by rw [exec_call_nn]; exact (Keeps.callTo s _).completes _)
  case invalid_D3 => exact .stops _ 0xD3 rfl (by decide) (exec_invalid_D3 s)
  case reti => exact .returns (exec_reti s)
  case invalid_DB => exact .stops _ 0xDB rfl (by decide) (exec_invalid_DB s)
  case invalid_DD => exact .stops _ 0xDD rfl (by decide) (exec_invalid_DD s)
  case ldh_atN_A => exact .completes _ _ (by rw [exec_ldh_atN_A]; exact storeA_completes _ _ s)
  case ld_atC_A => exact .completes _ _ (by rw [exec_ld_atC_A]; exact storeA_completes _ _ s)
  case invalid_E3 => exact .stops _ 0xE3 rfl (by decide) (exec_invalid_E3 s)
  case invalid_E4 => exact .stops _ 0xE4 rfl (by decide) (exec_invalid_E4 s)
  case add_SP_e => exact .completes _ _ (by rw [exec_add_SP_e]; exact ((Keeps.setFlags s _).trans (Keeps.setSp _ _)).completes _)
  case jp_HL => exact .completes _ _ (by rw [exec_jp_HL]; exact (Keeps.setPc s _).completes _)
  case ld_atNn_A => exact .completes _ _ (by rw [exec_ld_atNn_A]; exact storeA_completes _ _ s)
  case invalid_EB => exact .stops _ 0xEB rfl (by decide) (exec_invalid_EB s)
  case invalid_EC => exact .stops _ 0xEC rfl (by decide) (exec_invalid_EC s)
  case invalid_ED => exact .stops _ 0xED rfl (by decide) (exec_invalid_ED s)
  case ldh_A_atN => exact .completes _ _ (by rw [exec_ldh_A_atN]; exact loadA_completes _ _ s)
  case ld_A_atC => exact .completes _ _ (by rw [exec_ld_A_atC]; exact loadA_completes _ _ s)
  case di => exact .disables (exec_di s)
  case invalid_F4 => exact .stops _ 0xF4 rfl (by decide) (exec_invalid_F4 s)
  case ld_HL_SPe => exact .completes _ _ (by rw [exec_ld_HL_SPe]; exact ((Keeps.setFlags s _).trans (Keeps.set16 _ _ _)).completes _)
  case ld_SP_HL => exact .completes _ _ (by rw [exec_ld_SP_HL]; exact (Keeps.setSp s _).completes _)
  case ld_A_atNn => exact .completes _ _ (by rw [exec_ld_A_atNn]; exact loadA_completes _ _ s)
  case ei => exact .enables (exec_ei s)
  case invalid_FC => exact .stops _ 0xFC rfl (by decide) (exec_invalid_FC s)
  case invalid_FD => exact .stops _ 0xFD rfl (by decide) (exec_invalid_FD s)

/-! ### The step -/

/-- A step ends in one of five ways: the stop of a faulted machine, a wake or a halted tick, a dispatch, an
instruction (R390). -/
theorem cycle_cases (s : State) :
    (∃ f, s.fault = some f ∧ cycle s = .fault (.invalidOpcode f)) ∨
    (s.fault = none ∧ s.halted = true ∧ pending s = 0 ∧ cycle s = finish 4 s) ∨
    (s.fault = none ∧ s.halted = true ∧ pending s ≠ 0 ∧
      cycle s = finish 4 { s with halted := false }) ∨
    (∃ k, s.fault = none ∧ s.halted = false ∧ s.ime = true ∧ firstPending (pending s) = some k ∧
      cycle s = finish 20 (dispatchInterrupt k s)) ∨
    (s.fault = none ∧ s.halted = false ∧ (s.ime = true → firstPending (pending s) = none) ∧
      cycle s = commitResult s.imeSched (exec (fetchInstr s).1 (fetchInstr s).2)) := by
  unfold cycle
  cases hf : s.fault with
  | some f => exact .inl ⟨f, rfl, rfl⟩
  | none =>
    cases hh : s.halted with
    | true =>
      by_cases hp : pending s = 0
      · exact .inr (.inl ⟨rfl, rfl, hp, by simp [haltedStep, hp]⟩)
      · exact .inr (.inr (.inl ⟨rfl, rfl, hp, by simp only [haltedStep, if_neg hp, hf, if_true]⟩))
    | false =>
      cases hd : dispatchSource s with
      | some k =>
        unfold dispatchSource at hd
        split at hd
        · rename_i hi
          exact .inr (.inr (.inr (.inl ⟨k, rfl, rfl, hi, hd, by simp [runningStep, dispatchSource, hi, hd]⟩)))
        · cases hd
      | none =>
        refine .inr (.inr (.inr (.inr ⟨rfl, rfl, fun hi => ?_, by simp [runningStep, hd, runInstruction]⟩)))
        simpa [dispatchSource, hi] using hd

/-- No source is first exactly when none is pending (R415, R417). -/
theorem firstPending_eq_none (p : BitVec 5) : firstPending p = none ↔ p = 0 := by
  revert p; decide

/-- Fetching an instruction keeps what `Keeps` lists. -/
theorem Keeps.fetchInstr (s : State) : Keeps s (fetchInstr s).2 := by
  unfold Machine.fetchInstr
  split
  · exact Keeps.fetch8 s
  · exact (Keeps.fetch8 s).trans (Keeps.fetch8 _)
  · exact ((Keeps.fetch8 s).trans (Keeps.fetch8 _)).trans (Keeps.fetch8 _)

end Sys2Proof.Machine
end

