-- ==== Sys2Proof/Tests/Slice0.lean ====
section
/-!
SUPPORT. Tests: the well-formedness smoke test; every row of the opcode table decoded from bytes written out from
the maps of R173 and R174; one step each for vectors of spec/95_test_vectors.md (S1–S17, V1–V133), which is
where every expected result comes from; and for each statement with hypotheses, states and operands
that meet them.
-/

namespace Sys2Proof.Tests

open Sys2Proof.Machine Sys2Proof.Statements

/-! ### Well-formedness -/

/-- The escape alone is no instruction (R175). -/
theorem test_escape_is_refused : WellFormed .prefixCb = false := by decide

/-- Every instruction the decoder can give is accepted. -/
theorem test_decoded_is_wellFormed :
    WellFormed .nop = true ∧ WellFormed .swap_A = true ∧ WellFormed .invalid_D3 = true := by decide

/-- A cut-off byte string is refused by name, and so is the escape alone. -/
theorem test_truncated_is_refused :
    decode [] = .error .truncated ∧ decode [0xC3, 0x50] = .error .truncated ∧
    decode [0xCB] = .error .truncated := ⟨rfl, rfl, rfl⟩

/-! ### Decoding, every row: the unprefixed map (R173), with operand bytes 0x34 and 0x12 -/

theorem test_decode_00_0F :
    [0x00, 0x01, 0x02, 0x03, 0x04, 0x05, 0x06, 0x07, 0x08, 0x09, 0x0A, 0x0B, 0x0C, 0x0D, 0x0E, 0x0F].map
        (fun op => decodeBytes op 0x34 0x12) =
      [.nop, .ld_BC_nn 0x1234, .ld_atBC_A, .inc_BC, .inc_B, .dec_B, .ld_B_n 0x34, .rlca,
       .ld_atNn_SP 0x1234, .add_HL_BC, .ld_A_atBC, .dec_BC, .inc_C, .dec_C, .ld_C_n 0x34, .rrca] := by
  decide

theorem test_decode_10_1F :
    [0x10, 0x11, 0x12, 0x13, 0x14, 0x15, 0x16, 0x17, 0x18, 0x19, 0x1A, 0x1B, 0x1C, 0x1D, 0x1E, 0x1F].map
        (fun op => decodeBytes op 0x34 0x12) =
      [.stop 0x34, .ld_DE_nn 0x1234, .ld_atDE_A, .inc_DE, .inc_D, .dec_D, .ld_D_n 0x34, .rla,
       .jr_e 0x34, .add_HL_DE, .ld_A_atDE, .dec_DE, .inc_E, .dec_E, .ld_E_n 0x34, .rra] := by
  decide

theorem test_decode_20_2F :
    [0x20, 0x21, 0x22, 0x23, 0x24, 0x25, 0x26, 0x27, 0x28, 0x29, 0x2A, 0x2B, 0x2C, 0x2D, 0x2E, 0x2F].map
        (fun op => decodeBytes op 0x34 0x12) =
      [.jr_NZ_e 0x34, .ld_HL_nn 0x1234, .ld_atHLi_A, .inc_HL, .inc_H, .dec_H, .ld_H_n 0x34, .daa,
       .jr_Z_e 0x34, .add_HL_HL, .ld_A_atHLi, .dec_HL, .inc_L, .dec_L, .ld_L_n 0x34, .cpl] := by
  decide

theorem test_decode_30_3F :
    [0x30, 0x31, 0x32, 0x33, 0x34, 0x35, 0x36, 0x37, 0x38, 0x39, 0x3A, 0x3B, 0x3C, 0x3D, 0x3E, 0x3F].map
        (fun op => decodeBytes op 0x34 0x12) =
      [.jr_NC_e 0x34, .ld_SP_nn 0x1234, .ld_atHLd_A, .inc_SP, .inc_atHL, .dec_atHL, .ld_atHL_n 0x34,
       .scf, .jr_C_e 0x34, .add_HL_SP, .ld_A_atHLd, .dec_SP, .inc_A, .dec_A, .ld_A_n 0x34, .ccf] := by
  decide

theorem test_decode_40_4F :
    [0x40, 0x41, 0x42, 0x43, 0x44, 0x45, 0x46, 0x47, 0x48, 0x49, 0x4A, 0x4B, 0x4C, 0x4D, 0x4E, 0x4F].map
        (fun op => decodeBytes op 0x34 0x12) =
      [.ld_B_B, .ld_B_C, .ld_B_D, .ld_B_E, .ld_B_H, .ld_B_L, .ld_B_atHL, .ld_B_A, .ld_C_B, .ld_C_C,
       .ld_C_D, .ld_C_E, .ld_C_H, .ld_C_L, .ld_C_atHL, .ld_C_A] := by
  decide

theorem test_decode_50_5F :
    [0x50, 0x51, 0x52, 0x53, 0x54, 0x55, 0x56, 0x57, 0x58, 0x59, 0x5A, 0x5B, 0x5C, 0x5D, 0x5E, 0x5F].map
        (fun op => decodeBytes op 0x34 0x12) =
      [.ld_D_B, .ld_D_C, .ld_D_D, .ld_D_E, .ld_D_H, .ld_D_L, .ld_D_atHL, .ld_D_A, .ld_E_B, .ld_E_C,
       .ld_E_D, .ld_E_E, .ld_E_H, .ld_E_L, .ld_E_atHL, .ld_E_A] := by
  decide

theorem test_decode_60_6F :
    [0x60, 0x61, 0x62, 0x63, 0x64, 0x65, 0x66, 0x67, 0x68, 0x69, 0x6A, 0x6B, 0x6C, 0x6D, 0x6E, 0x6F].map
        (fun op => decodeBytes op 0x34 0x12) =
      [.ld_H_B, .ld_H_C, .ld_H_D, .ld_H_E, .ld_H_H, .ld_H_L, .ld_H_atHL, .ld_H_A, .ld_L_B, .ld_L_C,
       .ld_L_D, .ld_L_E, .ld_L_H, .ld_L_L, .ld_L_atHL, .ld_L_A] := by
  decide

theorem test_decode_70_7F :
    [0x70, 0x71, 0x72, 0x73, 0x74, 0x75, 0x76, 0x77, 0x78, 0x79, 0x7A, 0x7B, 0x7C, 0x7D, 0x7E, 0x7F].map
        (fun op => decodeBytes op 0x34 0x12) =
      [.ld_atHL_B, .ld_atHL_C, .ld_atHL_D, .ld_atHL_E, .ld_atHL_H, .ld_atHL_L, .halt, .ld_atHL_A,
       .ld_A_B, .ld_A_C, .ld_A_D, .ld_A_E, .ld_A_H, .ld_A_L, .ld_A_atHL, .ld_A_A] := by
  decide

theorem test_decode_80_8F :
    [0x80, 0x81, 0x82, 0x83, 0x84, 0x85, 0x86, 0x87, 0x88, 0x89, 0x8A, 0x8B, 0x8C, 0x8D, 0x8E, 0x8F].map
        (fun op => decodeBytes op 0x34 0x12) =
      [.add_A_B, .add_A_C, .add_A_D, .add_A_E, .add_A_H, .add_A_L, .add_A_atHL, .add_A_A, .adc_A_B,
       .adc_A_C, .adc_A_D, .adc_A_E, .adc_A_H, .adc_A_L, .adc_A_atHL, .adc_A_A] := by
  decide

theorem test_decode_90_9F :
    [0x90, 0x91, 0x92, 0x93, 0x94, 0x95, 0x96, 0x97, 0x98, 0x99, 0x9A, 0x9B, 0x9C, 0x9D, 0x9E, 0x9F].map
        (fun op => decodeBytes op 0x34 0x12) =
      [.sub_B, .sub_C, .sub_D, .sub_E, .sub_H, .sub_L, .sub_atHL, .sub_A, .sbc_A_B, .sbc_A_C, .sbc_A_D,
       .sbc_A_E, .sbc_A_H, .sbc_A_L, .sbc_A_atHL, .sbc_A_A] := by
  decide

theorem test_decode_A0_AF :
    [0xA0, 0xA1, 0xA2, 0xA3, 0xA4, 0xA5, 0xA6, 0xA7, 0xA8, 0xA9, 0xAA, 0xAB, 0xAC, 0xAD, 0xAE, 0xAF].map
        (fun op => decodeBytes op 0x34 0x12) =
      [.and_B, .and_C, .and_D, .and_E, .and_H, .and_L, .and_atHL, .and_A, .xor_B, .xor_C, .xor_D,
       .xor_E, .xor_H, .xor_L, .xor_atHL, .xor_A] := by
  decide

theorem test_decode_B0_BF :
    [0xB0, 0xB1, 0xB2, 0xB3, 0xB4, 0xB5, 0xB6, 0xB7, 0xB8, 0xB9, 0xBA, 0xBB, 0xBC, 0xBD, 0xBE, 0xBF].map
        (fun op => decodeBytes op 0x34 0x12) =
      [.or_B, .or_C, .or_D, .or_E, .or_H, .or_L, .or_atHL, .or_A, .cp_B, .cp_C, .cp_D, .cp_E, .cp_H,
       .cp_L, .cp_atHL, .cp_A] := by
  decide

theorem test_decode_C0_CF :
    [0xC0, 0xC1, 0xC2, 0xC3, 0xC4, 0xC5, 0xC6, 0xC7, 0xC8, 0xC9, 0xCA, 0xCC, 0xCD, 0xCE, 0xCF].map
        (fun op => decodeBytes op 0x34 0x12) =
      [.ret_NZ, .pop_BC, .jp_NZ_nn 0x1234, .jp_nn 0x1234, .call_NZ_nn 0x1234, .push_BC, .add_A_n 0x34,
       .rst_00, .ret_Z, .ret, .jp_Z_nn 0x1234, .call_Z_nn 0x1234, .call_nn 0x1234, .adc_A_n 0x34,
       .rst_08] := by
  decide

theorem test_decode_D0_DF :
    [0xD0, 0xD1, 0xD2, 0xD3, 0xD4, 0xD5, 0xD6, 0xD7, 0xD8, 0xD9, 0xDA, 0xDB, 0xDC, 0xDD, 0xDE, 0xDF].map
        (fun op => decodeBytes op 0x34 0x12) =
      [.ret_NC, .pop_DE, .jp_NC_nn 0x1234, .invalid_D3, .call_NC_nn 0x1234, .push_DE, .sub_n 0x34,
       .rst_10, .ret_C, .reti, .jp_C_nn 0x1234, .invalid_DB, .call_C_nn 0x1234, .invalid_DD,
       .sbc_A_n 0x34, .rst_18] := by
  decide

theorem test_decode_E0_EF :
    [0xE0, 0xE1, 0xE2, 0xE3, 0xE4, 0xE5, 0xE6, 0xE7, 0xE8, 0xE9, 0xEA, 0xEB, 0xEC, 0xED, 0xEE, 0xEF].map
        (fun op => decodeBytes op 0x34 0x12) =
      [.ldh_atN_A 0x34, .pop_HL, .ld_atC_A, .invalid_E3, .invalid_E4, .push_HL, .and_n 0x34, .rst_20,
       .add_SP_e 0x34, .jp_HL, .ld_atNn_A 0x1234, .invalid_EB, .invalid_EC, .invalid_ED, .xor_n 0x34,
       .rst_28] := by
  decide

theorem test_decode_F0_FF :
    [0xF0, 0xF1, 0xF2, 0xF3, 0xF4, 0xF5, 0xF6, 0xF7, 0xF8, 0xF9, 0xFA, 0xFB, 0xFC, 0xFD, 0xFE, 0xFF].map
        (fun op => decodeBytes op 0x34 0x12) =
      [.ldh_A_atN 0x34, .pop_AF, .ld_A_atC, .di, .invalid_F4, .push_AF, .or_n 0x34, .rst_30,
       .ld_HL_SPe 0x34, .ld_SP_HL, .ld_A_atNn 0x1234, .ei, .invalid_FC, .invalid_FD, .cp_n 0x34, .rst_38] := by
  decide

/-! ### Decoding, every row: the CB map (R174) -/

theorem test_decode_CB_00_0F :
    [0x00, 0x01, 0x02, 0x03, 0x04, 0x05, 0x06, 0x07, 0x08, 0x09, 0x0A, 0x0B, 0x0C, 0x0D, 0x0E, 0x0F].map
        (fun op => decodeBytes 0xCB op 0x00) =
      [.rlc_B, .rlc_C, .rlc_D, .rlc_E, .rlc_H, .rlc_L, .rlc_atHL, .rlc_A, .rrc_B, .rrc_C, .rrc_D,
       .rrc_E, .rrc_H, .rrc_L, .rrc_atHL, .rrc_A] := by
  decide

theorem test_decode_CB_10_1F :
    [0x10, 0x11, 0x12, 0x13, 0x14, 0x15, 0x16, 0x17, 0x18, 0x19, 0x1A, 0x1B, 0x1C, 0x1D, 0x1E, 0x1F].map
        (fun op => decodeBytes 0xCB op 0x00) =
      [.rl_B, .rl_C, .rl_D, .rl_E, .rl_H, .rl_L, .rl_atHL, .rl_A, .rr_B, .rr_C, .rr_D, .rr_E, .rr_H,
       .rr_L, .rr_atHL, .rr_A] := by
  decide

theorem test_decode_CB_20_2F :
    [0x20, 0x21, 0x22, 0x23, 0x24, 0x25, 0x26, 0x27, 0x28, 0x29, 0x2A, 0x2B, 0x2C, 0x2D, 0x2E, 0x2F].map
        (fun op => decodeBytes 0xCB op 0x00) =
      [.sla_B, .sla_C, .sla_D, .sla_E, .sla_H, .sla_L, .sla_atHL, .sla_A, .sra_B, .sra_C, .sra_D,
       .sra_E, .sra_H, .sra_L, .sra_atHL, .sra_A] := by
  decide

theorem test_decode_CB_30_3F :
    [0x30, 0x31, 0x32, 0x33, 0x34, 0x35, 0x36, 0x37, 0x38, 0x39, 0x3A, 0x3B, 0x3C, 0x3D, 0x3E, 0x3F].map
        (fun op => decodeBytes 0xCB op 0x00) =
      [.swap_B, .swap_C, .swap_D, .swap_E, .swap_H, .swap_L, .swap_atHL, .swap_A, .srl_B, .srl_C,
       .srl_D, .srl_E, .srl_H, .srl_L, .srl_atHL, .srl_A] := by
  decide

theorem test_decode_CB_40_4F :
    [0x40, 0x41, 0x42, 0x43, 0x44, 0x45, 0x46, 0x47, 0x48, 0x49, 0x4A, 0x4B, 0x4C, 0x4D, 0x4E, 0x4F].map
        (fun op => decodeBytes 0xCB op 0x00) =
      [.bit_0_B, .bit_0_C, .bit_0_D, .bit_0_E, .bit_0_H, .bit_0_L, .bit_0_atHL, .bit_0_A, .bit_1_B,
       .bit_1_C, .bit_1_D, .bit_1_E, .bit_1_H, .bit_1_L, .bit_1_atHL, .bit_1_A] := by
  decide

theorem test_decode_CB_50_5F :
    [0x50, 0x51, 0x52, 0x53, 0x54, 0x55, 0x56, 0x57, 0x58, 0x59, 0x5A, 0x5B, 0x5C, 0x5D, 0x5E, 0x5F].map
        (fun op => decodeBytes 0xCB op 0x00) =
      [.bit_2_B, .bit_2_C, .bit_2_D, .bit_2_E, .bit_2_H, .bit_2_L, .bit_2_atHL, .bit_2_A, .bit_3_B,
       .bit_3_C, .bit_3_D, .bit_3_E, .bit_3_H, .bit_3_L, .bit_3_atHL, .bit_3_A] := by
  decide

theorem test_decode_CB_60_6F :
    [0x60, 0x61, 0x62, 0x63, 0x64, 0x65, 0x66, 0x67, 0x68, 0x69, 0x6A, 0x6B, 0x6C, 0x6D, 0x6E, 0x6F].map
        (fun op => decodeBytes 0xCB op 0x00) =
      [.bit_4_B, .bit_4_C, .bit_4_D, .bit_4_E, .bit_4_H, .bit_4_L, .bit_4_atHL, .bit_4_A, .bit_5_B,
       .bit_5_C, .bit_5_D, .bit_5_E, .bit_5_H, .bit_5_L, .bit_5_atHL, .bit_5_A] := by
  decide

theorem test_decode_CB_70_7F :
    [0x70, 0x71, 0x72, 0x73, 0x74, 0x75, 0x76, 0x77, 0x78, 0x79, 0x7A, 0x7B, 0x7C, 0x7D, 0x7E, 0x7F].map
        (fun op => decodeBytes 0xCB op 0x00) =
      [.bit_6_B, .bit_6_C, .bit_6_D, .bit_6_E, .bit_6_H, .bit_6_L, .bit_6_atHL, .bit_6_A, .bit_7_B,
       .bit_7_C, .bit_7_D, .bit_7_E, .bit_7_H, .bit_7_L, .bit_7_atHL, .bit_7_A] := by
  decide

theorem test_decode_CB_80_8F :
    [0x80, 0x81, 0x82, 0x83, 0x84, 0x85, 0x86, 0x87, 0x88, 0x89, 0x8A, 0x8B, 0x8C, 0x8D, 0x8E, 0x8F].map
        (fun op => decodeBytes 0xCB op 0x00) =
      [.res_0_B, .res_0_C, .res_0_D, .res_0_E, .res_0_H, .res_0_L, .res_0_atHL, .res_0_A, .res_1_B,
       .res_1_C, .res_1_D, .res_1_E, .res_1_H, .res_1_L, .res_1_atHL, .res_1_A] := by
  decide

theorem test_decode_CB_90_9F :
    [0x90, 0x91, 0x92, 0x93, 0x94, 0x95, 0x96, 0x97, 0x98, 0x99, 0x9A, 0x9B, 0x9C, 0x9D, 0x9E, 0x9F].map
        (fun op => decodeBytes 0xCB op 0x00) =
      [.res_2_B, .res_2_C, .res_2_D, .res_2_E, .res_2_H, .res_2_L, .res_2_atHL, .res_2_A, .res_3_B,
       .res_3_C, .res_3_D, .res_3_E, .res_3_H, .res_3_L, .res_3_atHL, .res_3_A] := by
  decide

theorem test_decode_CB_A0_AF :
    [0xA0, 0xA1, 0xA2, 0xA3, 0xA4, 0xA5, 0xA6, 0xA7, 0xA8, 0xA9, 0xAA, 0xAB, 0xAC, 0xAD, 0xAE, 0xAF].map
        (fun op => decodeBytes 0xCB op 0x00) =
      [.res_4_B, .res_4_C, .res_4_D, .res_4_E, .res_4_H, .res_4_L, .res_4_atHL, .res_4_A, .res_5_B,
       .res_5_C, .res_5_D, .res_5_E, .res_5_H, .res_5_L, .res_5_atHL, .res_5_A] := by
  decide

theorem test_decode_CB_B0_BF :
    [0xB0, 0xB1, 0xB2, 0xB3, 0xB4, 0xB5, 0xB6, 0xB7, 0xB8, 0xB9, 0xBA, 0xBB, 0xBC, 0xBD, 0xBE, 0xBF].map
        (fun op => decodeBytes 0xCB op 0x00) =
      [.res_6_B, .res_6_C, .res_6_D, .res_6_E, .res_6_H, .res_6_L, .res_6_atHL, .res_6_A, .res_7_B,
       .res_7_C, .res_7_D, .res_7_E, .res_7_H, .res_7_L, .res_7_atHL, .res_7_A] := by
  decide

theorem test_decode_CB_C0_CF :
    [0xC0, 0xC1, 0xC2, 0xC3, 0xC4, 0xC5, 0xC6, 0xC7, 0xC8, 0xC9, 0xCA, 0xCB, 0xCC, 0xCD, 0xCE, 0xCF].map
        (fun op => decodeBytes 0xCB op 0x00) =
      [.set_0_B, .set_0_C, .set_0_D, .set_0_E, .set_0_H, .set_0_L, .set_0_atHL, .set_0_A, .set_1_B,
       .set_1_C, .set_1_D, .set_1_E, .set_1_H, .set_1_L, .set_1_atHL, .set_1_A] := by
  decide

theorem test_decode_CB_D0_DF :
    [0xD0, 0xD1, 0xD2, 0xD3, 0xD4, 0xD5, 0xD6, 0xD7, 0xD8, 0xD9, 0xDA, 0xDB, 0xDC, 0xDD, 0xDE, 0xDF].map
        (fun op => decodeBytes 0xCB op 0x00) =
      [.set_2_B, .set_2_C, .set_2_D, .set_2_E, .set_2_H, .set_2_L, .set_2_atHL, .set_2_A, .set_3_B,
       .set_3_C, .set_3_D, .set_3_E, .set_3_H, .set_3_L, .set_3_atHL, .set_3_A] := by
  decide

theorem test_decode_CB_E0_EF :
    [0xE0, 0xE1, 0xE2, 0xE3, 0xE4, 0xE5, 0xE6, 0xE7, 0xE8, 0xE9, 0xEA, 0xEB, 0xEC, 0xED, 0xEE, 0xEF].map
        (fun op => decodeBytes 0xCB op 0x00) =
      [.set_4_B, .set_4_C, .set_4_D, .set_4_E, .set_4_H, .set_4_L, .set_4_atHL, .set_4_A, .set_5_B,
       .set_5_C, .set_5_D, .set_5_E, .set_5_H, .set_5_L, .set_5_atHL, .set_5_A] := by
  decide

theorem test_decode_CB_F0_FF :
    [0xF0, 0xF1, 0xF2, 0xF3, 0xF4, 0xF5, 0xF6, 0xF7, 0xF8, 0xF9, 0xFA, 0xFB, 0xFC, 0xFD, 0xFE, 0xFF].map
        (fun op => decodeBytes 0xCB op 0x00) =
      [.set_6_B, .set_6_C, .set_6_D, .set_6_E, .set_6_H, .set_6_L, .set_6_atHL, .set_6_A, .set_7_B,
       .set_7_C, .set_7_D, .set_7_E, .set_7_H, .set_7_L, .set_7_atHL, .set_7_A] := by
  decide

/-- The words of the opcode table: a CB row is the number 0xCBoo; in other rows the first byte is lowest. -/
theorem test_table_words :
    decodeTableWord 16 0xCB37 = some .swap_A ∧ decodeTableWord 8 0x76 = some .halt ∧
    decodeTableWord 24 0x0150C3 = some (.jp_nn 0x0150) ∧ decodeTableWord 8 0xC3 = some (.jp_nn 0) := by
  decide

/-! ### One step from a small state -/

/-- The state a step answers. -/
def nextOf (r : Result) : Option State :=
  match r with
  | .next t => some t
  | _ => none

/-- The default start state of 95_test_vectors.md, with the bytes at 0x0100 and the given WRAM and registers. -/
def start (bytes wram : List Byte) (r : RegisterFile) : State :=
  { State.reset with
    regs := r
    bus := { Bus.reset with wram := Memory.ofBytes 0x00 0 wram }
    cart := { Cartridge.blank with rom := Memory.ofBytes 0x00 0x0100 bytes } }

/-- The registers after one step, and what the step reports. -/
def regsAfter (s : State) : Option (RegisterFile × Option StepResult) :=
  (nextOf (step s)).map fun t => (t.regs, t.report)

/-- A byte as read after one step. -/
def byteAfter (a : Word) (s : State) : Option Byte := (nextOf (step s)).map (readValue a)

/-- The reset registers, with which most vectors start. -/
def r0 : RegisterFile := RegisterFile.reset

/-- S5. -/
theorem test_inc_B :
    regsAfter
      (start [0x04] [] { r0 with b := 0xFF, f := 0x00 }) =
      some ({ r0 with b := 0x00, f := 0xA0, pc := 0x0101 }, some (.ok 4)) := by
  decide

/-- S5, with C set. -/
theorem test_inc_B_keeps_carry :
    regsAfter
      (start [0x04] [] { r0 with b := 0xFF, f := 0x10 }) =
      some ({ r0 with b := 0x00, f := 0xB0, pc := 0x0101 }, some (.ok 4)) := by
  decide

/-- S6. -/
theorem test_dec_B :
    regsAfter
      (start [0x05] [] { r0 with b := 0x00, f := 0x00 }) =
      some ({ r0 with b := 0xFF, f := 0x60, pc := 0x0101 }, some (.ok 4)) := by
  decide

/-- S7. -/
theorem test_add_A_B :
    regsAfter
      (start [0x80] [] { r0 with a := 0x0F, b := 0x01 }) =
      some ({ r0 with a := 0x10, b := 0x01, f := 0x20, pc := 0x0101 }, some (.ok 4)) := by
  decide

/-- S8. -/
theorem test_add_HL_BC :
    regsAfter
      (start [0x09] [] { r0 with h := 0xFF, l := 0xFF, b := 0x00, c := 0x01, f := 0x80 }) =
      some ({ r0 with h := 0x00, l := 0x00, b := 0x00, c := 0x01, f := 0xB0, pc := 0x0101 }, some (.ok 8)) := by
  decide

/-- S13. -/
theorem test_nop :
    regsAfter
      (start [0x00, 0x00, 0xC3] [] r0) =
      some ({ r0 with pc := 0x0101 }, some (.ok 4)) := by
  decide

/-- S13. -/
theorem test_jp_nn :
    regsAfter
      (start [0xC3, 0x50, 0x01] [] r0) =
      some ({ r0 with pc := 0x0150 }, some (.ok 16)) := by
  decide

/-- V1. -/
theorem test_ld_A_B :
    regsAfter
      (start [0x78] [] { r0 with b := 0x12 }) =
      some ({ r0 with b := 0x12, a := 0x12, pc := 0x0101 }, some (.ok 4)) := by
  decide

/-- V2. -/
theorem test_ld_A_n :
    regsAfter
      (start [0x3E, 0x42] [] r0) =
      some ({ r0 with a := 0x42, pc := 0x0102 }, some (.ok 8)) := by
  decide

/-- V3. -/
theorem test_ld_A_atHL :
    regsAfter
      (start [0x7E] [0x99] { r0 with h := 0xC0, l := 0x00 }) =
      some ({ r0 with h := 0xC0, l := 0x00, a := 0x99, pc := 0x0101 }, some (.ok 8)) := by
  decide

/-- V4. -/
theorem test_ld_atHL_n :
    regsAfter
      (start [0x36, 0xAB] [] { r0 with h := 0xC0, l := 0x10 }) =
      some ({ r0 with h := 0xC0, l := 0x10, pc := 0x0102 }, some (.ok 12)) ∧
    byteAfter 0xC010
      (start [0x36, 0xAB] [] { r0 with h := 0xC0, l := 0x10 }) = some 0xAB := by
  decide

/-- V5: HL wraps, and the byte lands in IE. -/
theorem test_ld_atHLi_A :
    regsAfter
      (start [0x22] [] { r0 with h := 0xFF, l := 0xFF, a := 0x1F }) =
      some ({ r0 with h := 0x00, l := 0x00, a := 0x1F, pc := 0x0101 }, some (.ok 8)) ∧
    byteAfter 0xFFFF
      (start [0x22] [] { r0 with h := 0xFF, l := 0xFF, a := 0x1F }) = some 0x1F := by
  decide

/-- V6, with a zero ROM byte. -/
theorem test_ld_A_atHLd :
    regsAfter
      (start [0x3A] [] { r0 with h := 0x00, l := 0x00 }) =
      some ({ r0 with h := 0xFF, l := 0xFF, a := 0x00, pc := 0x0101 }, some (.ok 8)) := by
  decide

/-- V7. -/
theorem test_ld_atNn_SP :
    regsAfter
      (start [0x08, 0x00, 0xC0] [] { r0 with sp := 0xABCD }) =
      some ({ r0 with sp := 0xABCD, pc := 0x0103 }, some (.ok 20)) ∧
    byteAfter 0xC000
      (start [0x08, 0x00, 0xC0] [] { r0 with sp := 0xABCD }) = some 0xCD ∧
    byteAfter 0xC001
      (start [0x08, 0x00, 0xC0] [] { r0 with sp := 0xABCD }) = some 0xAB := by
  decide

/-- V8. -/
theorem test_pop_AF :
    regsAfter
      (start [0xF1] [0xFF, 0x00] { r0 with sp := 0xC000 }) =
      some ({ r0 with sp := 0xC002, a := 0x00, f := 0xF0, pc := 0x0101 }, some (.ok 12)) := by
  decide

/-- V9. -/
theorem test_push_BC :
    regsAfter
      (start [0xC5] [] { r0 with b := 0x12, c := 0x34 }) =
      some ({ r0 with b := 0x12, c := 0x34, sp := 0xFFFC, pc := 0x0101 }, some (.ok 16)) ∧
    byteAfter 0xFFFD
      (start [0xC5] [] { r0 with b := 0x12, c := 0x34 }) = some 0x12 ∧
    byteAfter 0xFFFC
      (start [0xC5] [] { r0 with b := 0x12, c := 0x34 }) = some 0x34 := by
  decide

/-- V11. -/
theorem test_ldh_atN_A :
    regsAfter
      (start [0xE0, 0x0F] [] { r0 with a := 0xFF }) =
      some ({ r0 with a := 0xFF, pc := 0x0102 }, some (.ok 12)) ∧
    byteAfter 0xFF0F
      (start [0xE0, 0x0F] [] { r0 with a := 0xFF }) = some 0xFF := by
  decide

/-- V12. -/
theorem test_ld_atC_A :
    regsAfter
      (start [0xE2] [] { r0 with c := 0xFF, a := 0x01 }) =
      some ({ r0 with c := 0xFF, a := 0x01, pc := 0x0101 }, some (.ok 8)) ∧
    byteAfter 0xFFFF
      (start [0xE2] [] { r0 with c := 0xFF, a := 0x01 }) = some 0x01 := by
  decide

/-- V14: the ROM byte stays, F is set from the value read (0x34). -/
theorem test_inc_atHL_in_rom :
    regsAfter
      (start [0x34] [] { r0 with h := 0x01, l := 0x00 }) =
      some ({ r0 with h := 0x01, l := 0x00, f := 0x10, pc := 0x0101 }, some (.ok 12)) ∧
    byteAfter 0x0100
      (start [0x34] [] { r0 with h := 0x01, l := 0x00 }) = some 0x34 := by
  decide

/-- V20. -/
theorem test_adc_A_B :
    regsAfter
      (start [0x88] [] { r0 with a := 0xFF, b := 0x00, f := 0x10 }) =
      some ({ r0 with a := 0x00, b := 0x00, f := 0xB0, pc := 0x0101 }, some (.ok 4)) := by
  decide

/-- V21. -/
theorem test_sbc_A_B :
    regsAfter
      (start [0x98] [] { r0 with a := 0x00, b := 0x00, f := 0x10 }) =
      some ({ r0 with a := 0xFF, b := 0x00, f := 0x70, pc := 0x0101 }, some (.ok 4)) := by
  decide

/-- V22. -/
theorem test_cp_n_below :
    regsAfter
      (start [0xFE, 0x20] [] { r0 with a := 0x10 }) =
      some ({ r0 with a := 0x10, f := 0x50, pc := 0x0102 }, some (.ok 8)) := by
  decide

/-- V23. -/
theorem test_cp_n_equal :
    regsAfter
      (start [0xFE, 0x20] [] { r0 with a := 0x20 }) =
      some ({ r0 with a := 0x20, f := 0xC0, pc := 0x0102 }, some (.ok 8)) := by
  decide

/-- V24. -/
theorem test_and_atHL :
    regsAfter
      (start [0xA6] [] { r0 with a := 0x5A, h := 0xC0, l := 0x00 }) =
      some ({ r0 with a := 0x00, h := 0xC0, l := 0x00, f := 0xA0, pc := 0x0101 }, some (.ok 8)) := by
  decide

/-- V25. -/
theorem test_xor_A :
    regsAfter
      (start [0xAF] [] { r0 with a := 0xFF }) =
      some ({ r0 with a := 0x00, f := 0x80, pc := 0x0101 }, some (.ok 4)) := by
  decide

/-- V26. -/
theorem test_cpl :
    regsAfter
      (start [0x2F] [] { r0 with a := 0x35, f := 0x80 }) =
      some ({ r0 with a := 0xCA, f := 0xE0, pc := 0x0101 }, some (.ok 4)) := by
  decide

/-- V27. -/
theorem test_scf :
    regsAfter
      (start [0x37] [] { r0 with f := 0x80 }) =
      some ({ r0 with f := 0x90, pc := 0x0101 }, some (.ok 4)) := by
  decide

/-- V28. -/
theorem test_ccf :
    regsAfter
      (start [0x3F] [] { r0 with f := 0x70 }) =
      some ({ r0 with f := 0x00, pc := 0x0101 }, some (.ok 4)) := by
  decide

/-- V29. -/
theorem test_inc_atHL :
    regsAfter
      (start [0x34] [0x0F] { r0 with h := 0xC0, l := 0x00, f := 0x10 }) =
      some ({ r0 with h := 0xC0, l := 0x00, f := 0x30, pc := 0x0101 }, some (.ok 12)) ∧
    byteAfter 0xC000
      (start [0x34] [0x0F] { r0 with h := 0xC0, l := 0x00, f := 0x10 }) = some 0x10 := by
  decide

/-- V30. -/
theorem test_dec_atHL :
    regsAfter
      (start [0x35] [0x10] { r0 with h := 0xC0, l := 0x00, f := 0x00 }) =
      some ({ r0 with h := 0xC0, l := 0x00, f := 0x60, pc := 0x0101 }, some (.ok 12)) ∧
    byteAfter 0xC000
      (start [0x35] [0x10] { r0 with h := 0xC0, l := 0x00, f := 0x00 }) = some 0x0F := by
  decide

/-- V50. -/
theorem test_add_HL_HL :
    regsAfter
      (start [0x29] [] { r0 with h := 0x88, l := 0x00, f := 0xC0 }) =
      some ({ r0 with h := 0x10, l := 0x00, f := 0xB0, pc := 0x0101 }, some (.ok 8)) := by
  decide

/-- V52. -/
theorem test_inc_BC :
    regsAfter
      (start [0x03] [] { r0 with b := 0x00, c := 0xFF }) =
      some ({ r0 with b := 0x01, c := 0x00, pc := 0x0101 }, some (.ok 8)) := by
  decide

/-- V53. -/
theorem test_dec_SP :
    regsAfter
      (start [0x3B] [] { r0 with sp := 0x0000 }) =
      some ({ r0 with sp := 0xFFFF, pc := 0x0101 }, some (.ok 8)) := by
  decide

/-- V54. -/
theorem test_add_SP_minus1 :
    regsAfter
      (start [0xE8, 0xFF] [] { r0 with sp := 0x0001 }) =
      some ({ r0 with sp := 0x0000, f := 0x30, pc := 0x0102 }, some (.ok 16)) := by
  decide

/-- V55. -/
theorem test_add_SP_minus128 :
    regsAfter
      (start [0xE8, 0x80] [] { r0 with sp := 0x1000 }) =
      some ({ r0 with sp := 0x0F80, f := 0x00, pc := 0x0102 }, some (.ok 16)) := by
  decide

/-- V56. -/
theorem test_ld_HL_SPe :
    regsAfter
      (start [0xF8, 0xFF] [] { r0 with sp := 0x0000 }) =
      some ({ r0 with sp := 0x0000, h := 0xFF, l := 0xFF, f := 0x00, pc := 0x0102 }, some (.ok 12)) := by
  decide

/-- V60. -/
theorem test_rra :
    regsAfter
      (start [0x1F] [] { r0 with a := 0x01, f := 0x00 }) =
      some ({ r0 with a := 0x00, f := 0x10, pc := 0x0101 }, some (.ok 4)) := by
  decide

/-- V61. -/
theorem test_rr_A :
    regsAfter
      (start [0xCB, 0x1F] [] { r0 with a := 0x01, f := 0x00 }) =
      some ({ r0 with a := 0x00, f := 0x90, pc := 0x0102 }, some (.ok 8)) := by
  decide

/-- V62. -/
theorem test_rlca :
    regsAfter
      (start [0x07] [] { r0 with a := 0x85 }) =
      some ({ r0 with a := 0x0B, f := 0x10, pc := 0x0101 }, some (.ok 4)) := by
  decide

/-- V63. -/
theorem test_swap_A :
    regsAfter
      (start [0xCB, 0x37] [] { r0 with a := 0xF1, f := 0x10 }) =
      some ({ r0 with a := 0x1F, f := 0x00, pc := 0x0102 }, some (.ok 8)) := by
  decide

/-- V64. -/
theorem test_bit_0_atHL :
    regsAfter
      (start [0xCB, 0x46] [0xFE] { r0 with h := 0xC0, l := 0x00, f := 0x50 }) =
      some ({ r0 with h := 0xC0, l := 0x00, f := 0xB0, pc := 0x0102 }, some (.ok 12)) := by
  decide

/-- V65. -/
theorem test_bit_7_H :
    regsAfter
      (start [0xCB, 0x7C] [] { r0 with h := 0x7F, f := 0x10 }) =
      some ({ r0 with h := 0x7F, f := 0xB0, pc := 0x0102 }, some (.ok 8)) := by
  decide

/-- V66. -/
theorem test_res_7_atHL :
    regsAfter
      (start [0xCB, 0xBE] [0x80] { r0 with h := 0xC0, l := 0x00 }) =
      some ({ r0 with h := 0xC0, l := 0x00, pc := 0x0102 }, some (.ok 16)) ∧
    byteAfter 0xC000
      (start [0xCB, 0xBE] [0x80] { r0 with h := 0xC0, l := 0x00 }) = some 0x00 := by
  decide

/-- V67. -/
theorem test_set_0_atHL :
    regsAfter
      (start [0xCB, 0xC6] [] { r0 with h := 0xC0, l := 0x00 }) =
      some ({ r0 with h := 0xC0, l := 0x00, pc := 0x0102 }, some (.ok 16)) ∧
    byteAfter 0xC000
      (start [0xCB, 0xC6] [] { r0 with h := 0xC0, l := 0x00 }) = some 0x01 := by
  decide

/-- V68. -/
theorem test_rlc_B :
    regsAfter
      (start [0xCB, 0x00] [] { r0 with b := 0x80 }) =
      some ({ r0 with b := 0x01, f := 0x10, pc := 0x0102 }, some (.ok 8)) := by
  decide

/-- V69. -/
theorem test_sra_A :
    regsAfter
      (start [0xCB, 0x2F] [] { r0 with a := 0x8A }) =
      some ({ r0 with a := 0xC5, f := 0x00, pc := 0x0102 }, some (.ok 8)) := by
  decide

/-- V70. -/
theorem test_srl_A :
    regsAfter
      (start [0xCB, 0x3F] [] { r0 with a := 0xFF }) =
      some ({ r0 with a := 0x7F, f := 0x10, pc := 0x0102 }, some (.ok 8)) := by
  decide

/-- V81, from 0x0100. -/
theorem test_jr_back :
    regsAfter
      (start [0x18, 0xFB] [] r0) =
      some ({ r0 with pc := 0x00FD }, some (.ok 12)) := by
  decide

/-- V82. -/
theorem test_jp_NC_not_taken :
    regsAfter
      (start [0xD2, 0x00, 0x30] [] { r0 with f := 0x10 }) =
      some ({ r0 with f := 0x10, pc := 0x0103 }, some (.ok 12)) := by
  decide

/-- V83. -/
theorem test_call_NZ_taken :
    regsAfter
      (start [0xC4, 0x00, 0x02] [] { r0 with f := 0x00 }) =
      some ({ r0 with f := 0x00, sp := 0xFFFC, pc := 0x0200 }, some (.ok 24)) ∧
    byteAfter 0xFFFD
      (start [0xC4, 0x00, 0x02] [] { r0 with f := 0x00 }) = some 0x01 ∧
    byteAfter 0xFFFC
      (start [0xC4, 0x00, 0x02] [] { r0 with f := 0x00 }) = some 0x03 := by
  decide

/-- V84. -/
theorem test_ret_C_taken :
    regsAfter
      (start [0xD8] [0x34, 0x12] { r0 with f := 0x10, sp := 0xC000 }) =
      some ({ r0 with f := 0x10, sp := 0xC002, pc := 0x1234 }, some (.ok 20)) := by
  decide

/-- V85. -/
theorem test_ret_Z_not_taken :
    regsAfter
      (start [0xC8] [] { r0 with f := 0x00 }) =
      some ({ r0 with f := 0x00, pc := 0x0101 }, some (.ok 8)) := by
  decide

/-- V86, from 0x0100. -/
theorem test_rst_28 :
    regsAfter
      (start [0xEF] [] r0) =
      some ({ r0 with sp := 0xFFFC, pc := 0x0028 }, some (.ok 16)) ∧
    byteAfter 0xFFFD
      (start [0xEF] [] r0) = some 0x01 ∧
    byteAfter 0xFFFC
      (start [0xEF] [] r0) = some 0x01 := by
  decide

/-- V87. -/
theorem test_jp_HL :
    regsAfter
      (start [0xE9] [] { r0 with h := 0x40, l := 0x00 }) =
      some ({ r0 with h := 0x40, l := 0x00, pc := 0x4000 }, some (.ok 4)) := by
  decide

/-- V31–V42: DAA, every branch: A, N, H, C before, and A, F after. -/
theorem test_daa :
    [((0x7D : Byte), false, false, false), (0x9A, false, false, false), (0x00, false, false, true),
      (0x0A, false, false, false), (0x99, false, false, false), (0x12, false, true, false),
      (0xA0, false, false, false), (0xFF, false, true, true), (0x0F, true, true, false),
      (0xFA, true, false, true), (0x66, true, true, true), (0x00, true, false, false)].map
        (fun x => (regsAfter (start [0x27] []
          { r0 with a := x.1, f := fByte false x.2.1 x.2.2.1 x.2.2.2 })).map fun y => (y.1.a, y.1.f)) =
      [some (0x83, 0x00), some (0x00, 0x90), some (0x60, 0x10), some (0x10, 0x00), some (0x99, 0x00),
        some (0x18, 0x00), some (0x00, 0x90), some (0x65, 0x10), some (0x09, 0x40), some (0x9A, 0x50),
        some (0x00, 0xD0), some (0x00, 0xC0)] := by
  decide

/-- S12, first step: EI schedules the enable. -/
theorem test_ei :
    (nextOf (step (start [0xFB, 0x00] [] r0))).map (fun t => (t.ime, t.imeSched, t.report)) =
      some (false, true, some (.ok 4)) := by
  decide

/-- S12, second step: the enable comes after the next instruction. -/
theorem test_ei_then_nop :
    (nextOf (step { start [0x00] [] r0 with imeSched := true })).map (fun t => (t.ime, t.imeSched)) =
      some (true, false) := by
  decide

/-- V90: DI after EI leaves both off. -/
theorem test_ei_then_di :
    (nextOf (step { start [0xF3] [] r0 with imeSched := true })).map (fun t => (t.ime, t.imeSched)) =
      some (false, false) := by
  decide

/-- S14: an INVALID opcode sets the fault, and the next step stops. -/
theorem test_invalid_D3 :
    (nextOf (step (start [0xD3] [] r0))).map (fun t => (t.fault, t.regs.pc)) =
      some (some { op := .plain 0xD3, addr := 0x0100 }, 0x0101) := by
  decide

/-- S15: RETI. -/
theorem test_reti :
    (nextOf (step (start [0xD9] [0x00, 0x02] { r0 with sp := 0xC000 }))).map
        (fun t => (t.regs.pc, t.regs.sp, t.ime, t.imeSched, t.report)) =
      some (0x0200, 0xC002, false, true, some (.ok 16)) := by
  decide

/-- V92: STOP skips its operand byte and halts. -/
theorem test_stop :
    (nextOf (step (start [0x10, 0x00] [] r0))).map (fun t => (t.regs.pc, t.halted, t.report)) =
      some (0x0102, true, some (.ok 4)) := by
  decide

/-- V93: HALT, and a halted tick. -/
theorem test_halt :
    (nextOf (step (start [0x76] [] r0))).map (fun t => (t.regs.pc, t.halted)) = some (0x0101, true) ∧
    nextOf (step { start [] [] r0 with halted := true }) =
      some { start [] [] r0 with halted := true, report := some (.ok 4) } := by
  decide

/-- V120: the lowest pending source is dispatched. -/
theorem test_dispatch :
    (nextOf (step { start [] [] r0 with ime := true, irq := { ie := 0x1F, ifr := 0x14 } })).map
        (fun t => ((t.regs.pc, t.regs.sp, t.irq.ifr, t.ime), readValue 0xFFFD t, readValue 0xFFFC t, t.report)) =
      some ((0x0050, 0xFFFC, 0x10, false), 0x01, 0x00, some (.ok 20)) := by
  decide

/-- V122: the vector is chosen before the push, which overwrites IE. -/
theorem test_dispatch_push_over_ie :
    (nextOf (step { start [] [] { r0 with sp := 0x0000, pc := 0x0234 } with
        ime := true, irq := { ie := 0x01, ifr := 0x01 } })).map
        (fun t => (t.regs.pc, t.irq.ie, t.irq.ifr, t.regs.sp)) =
      some (0x0040, 0x02, 0x00, 0xFFFE) := by
  decide

/-- V107: an MBC1 with four banks; 0x25 selects bank 5, which is bank 1. -/
theorem test_mbc1_bank :
    let s : State :=
      { State.reset with cart := { Cartridge.blank with
          rom := [(0x4000, 0xB1), (0x8000, 0xB2), (0xC000, 0xB3)], romLen := 0x10000, romBanks := 4
          mapper := .mbc1 { ramg := false, bank1 := 1, bank2 := 0, mode := false } } }
    readValue 0x4000 s = 0xB1 ∧ readValue 0x4000 (memWrite 0x2000 0x00 s) = 0xB1 ∧
    readValue 0x4000 (memWrite 0x2000 0x03 s) = 0xB3 ∧
    readValue 0x4000 (memWrite 0x2000 0x25 s) = 0xB1 ∧ readValue 0xA000 s = 0xFF := by
  decide

/-- V100, V101: the echo. -/
theorem test_echo :
    readValue 0xE123 (memWrite 0xC123 0x77 State.reset) = 0x77 ∧
    readValue 0xDDFF (memWrite 0xFDFF 0x11 State.reset) = 0x11 := by
  decide

/-- S9: the title and the checksum of the TETRIS header. -/
def tetris : List Byte :=
  List.replicate 0x134 0x00 ++ [0x54, 0x45, 0x54, 0x52, 0x49, 0x53] ++ List.replicate 0x13 0x00 ++
    [0x0C, 0x00, 0x00]

theorem test_header :
    headerTitle tetris = ['T', 'E', 'T', 'R', 'I', 'S'] ∧ isHeaderChecksumValid tetris = true ∧
    isHeaderChecksumValid (tetris.set 0x14C 0x01) = false := by
  decide +kernel

/-- The first instruction after reset is the one placed for the fetch. -/
theorem test_fetch_word :
    (nextOf (step (State.reset.withFetchWord 16 0xCB37))).map (fun t => (t.regs.a, t.regs.pc)) =
      some (0x10, 0x0102) ∧
    (nextOf (step (State.reset.withFetchWord 24 0x1234C3))).map (fun t => t.regs.pc) = some 0x1234 := by
  decide

/-! ### Witnesses: the hypotheses of each statement are met, clause by clause

A hypothesis on an address is met at the ends of its range. -/

/-- Parameters with the default cartridge types. -/
def params (strict : Bool) : Config.Params where
  strictBootValidation := strict
  cartRamInit := [0x5A]
  regInit := { a := 0x11, f := 0xFF, b := 0, c := 0, d := 0, e := 0, h := 0, l := 0, sp := 0xFFFE }
  recognizedTypes := Config.defaultCartTypes

/-- The shortest image that loads, with the given type and size codes. -/
def image (t romCode ramCode : Byte) : List Byte :=
  List.replicate 0x147 0x00 ++ [t, romCode, ramCode] ++ List.replicate 6 0x00

/-- Whether a construction succeeds. -/
def succeeds (r : Except LoadError State) : Bool :=
  match r with
  | .ok _ => true
  | .error _ => false

theorem exists_of_succeeds {r : Except LoadError State} (h : succeeds r = true) : ∃ s, r = .ok s := by
  cases r with
  | ok s => exact ⟨s, rfl⟩
  | error e => cases h

/-- ConstructGivesResetState, CartridgeAtReset, BlankCartridgeGivesReset, ReachableMeetsInvariant: constructions that
succeed, without and with a boot image. -/
theorem witness_construct :
    (∃ s, construct (params true) (image 0x00 0x08 0x05) none = .ok s) ∧
    (∃ s, construct (params true) (image 0x03 0x00 0x03) (some (List.replicate 256 0x31)) = .ok s) ∧
    (∃ s, construct (params true) (image 0x05 0x03 0x00) none = .ok s) ∧
    (∃ s, construct (params true) (image 0x0F 0x00 0x02) none = .ok s) ∧
    (∃ s, construct (params true) (image 0x13 0x00 0x02) none = .ok s) ∧
    (∃ s, construct (params true) (image 0x1E 0x00 0x02) none = .ok s) ∧
    0x00 ∈ (params true).recognizedTypes :=
  ⟨exists_of_succeeds (by decide +kernel), exists_of_succeeds (by decide +kernel),
    exists_of_succeeds (by decide +kernel), exists_of_succeeds (by decide +kernel),
    exists_of_succeeds (by decide +kernel), exists_of_succeeds (by decide +kernel), by decide⟩

theorem witness_reachable : ∃ s, Reachable s := by
  obtain ⟨s, h⟩ := witness_construct.1
  exact ⟨s, .constructed _ _ _ s h⟩

/-- CartridgeAtReset: the bounds of its clauses. -/
theorem witness_cartridge_ranges :
    (0xA000 ≤ (0xA000 : Word).toNat ∧ (0xBFFF : Word).toNat < 0xC000) ∧
    (0x4000 ≤ (0x4000 : Word).toNat ∧ (0x7FFF : Word).toNat < 0x8000) ∧
    (byteAt (image 0x03 0x00 0x03) 0x0147).toNat = 0x03 ∧
    (byteAt (image 0x05 0x03 0x00) 0x0147).toNat = 0x05 ∧
    (byteAt (image 0x0F 0x00 0x02) 0x0147).toNat = 0x0F := by
  decide +kernel

/-- BootBufferAtReset: a cartridge that builds, and a boot image for each clause. -/
theorem witness_boot_buffer :
    (∃ c, buildCartridge (params true) (image 0x00 0x00 0x00) = .ok c) ∧
    (params false).strictBootValidation = false ∧ (List.replicate 256 (0x31 : Byte)).length = 256 ∧
    (List.replicate 2304 (0x31 : Byte)).length = 2304 ∧ (params true).strictBootValidation = true ∧
    (List.replicate 255 (0x31 : Byte)).length ≠ 256 ∧
    (List.replicate 255 (0x31 : Byte)).length ≠ 2304 := by
  refine ⟨?_, rfl, List.length_replicate, List.length_replicate, rfl,
    by rw [List.length_replicate]; decide, by rw [List.length_replicate]; decide⟩
  obtain ⟨s, h⟩ : ∃ s, construct (params true) (image 0x00 0x00 0x00) none = .ok s :=
    exists_of_succeeds (by decide +kernel)
  unfold construct at h
  split at h
  · cases h
  · rename_i c hc
    exact ⟨c, hc⟩

/-- ConstructFailsExactlyOnLoadErrors: each clause at its boundary. -/
theorem witness_load_errors :
    ((image 0x00 0x00 0x00).dropLast.length < 0x0150 ∧ 0x0150 ≤ (image 0x00 0x00 0x00).length) ∧
    0x04 ∉ (params true).recognizedTypes ∧
    (0x00 ∈ (params true).recognizedTypes ∧ 0x00 ∈ Config.defaultCartTypes) ∧
    (8 < (byteAt (image 0x00 0x09 0x00) 0x0148).toNat ∧
      (byteAt (image 0x00 0x08 0x00) 0x0148).toNat ≤ 8) ∧
    (5 < (byteAt (image 0x00 0x08 0x06) 0x0149).toNat ∧
      (byteAt (image 0x00 0x08 0x05) 0x0149).toNat ≤ 5) ∧
    ((params true).strictBootValidation = true ∧ ([0x31] : List Byte).length ≠ 256 ∧
      ([0x31] : List Byte).length ≠ 2304) := by
  decide +kernel

/-- HeaderChecksum: a long enough image with a valid checksum, and a changed byte at each end of the field. -/
theorem witness_header :
    0x0150 ≤ tetris.length ∧ isHeaderChecksumValid tetris = true ∧ 0x55 ≠ byteAt tetris 0x0134 ∧
    0x01 ≠ byteAt tetris 0x014C := by
  decide +kernel

/-- FlagsOfF: a register file whose F has a zero low nibble. -/
theorem witness_flags : r0.f &&& 0x0F = 0x00 := by decide

/-- PlainRamAccess, PushThenPop: the canonical form, and the ends of the RAM ranges. -/
theorem witness_plain_ram :
    State.reset.memWf = true ∧ PlainRam 0x8000 ∧ PlainRam 0x9FFF ∧ PlainRam 0xC000 ∧ PlainRam 0xFE9F ∧
    PlainRam 0xFF80 ∧ PlainRam 0xFFFE ∧ PlainRam (State.reset.regs.sp - 1) ∧
    PlainRam (State.reset.regs.sp - 2) ∧ (0xDDFF : Word).toNat < 0xDE00 := by
  unfold PlainRam
  decide

/-- StoreLeavesOtherAddresses: a store of each kind, and an address that cannot see it. -/
theorem witness_apart :
    Apart 0x7FFF 0x0150 State.reset ∧ Apart 0xFF50 0x0100 State.reset ∧
    Apart 0xC000 0xC001 State.reset ∧ Apart 0xFFFF 0xFFFE State.reset ∧
    Apart 0xFF0F 0xFFFF State.reset ∧ Apart 0x0000 0x0001 State.reset := by
  refine ⟨.inl rfl, ?_, ⟨by decide, ?_⟩, ⟨by decide, ?_⟩, ⟨by decide, ?_⟩, ⟨by decide, ?_⟩⟩
  · show 0x100 ≤ (0x0100 : Word).toNat
    decide
  all_goals
    intro c h
    cases h
  intro h
  cases h

/-- InstructionLeavesOtherAddresses: an instruction that stores at HL, one that stores nothing. -/
theorem witness_frame :
    (∃ t, exec .ld_atHL_A { State.reset with regs := { r0 with h := 0xC0, l := 0x00 } } = .next t) ∧
    storedAddresses .ld_atHL_A { State.reset with regs := { r0 with h := 0xC0, l := 0x00 } } = [0xC000] ∧
    (∃ t, exec .nop State.reset = .next t) ∧ storedAddresses .nop State.reset = [] :=
  ⟨⟨_, rfl⟩, by decide, ⟨_, rfl⟩, rfl⟩

/-- RomAndUnusableStores, NoMapperCartridge, BootRomUnmap: the cartridge of the reset state, the ends of the ranges,
and both settings of the boot overlay. -/
theorem witness_rom :
    State.reset.cart.mapper = .noMapper ∧ 2 ≤ State.reset.cart.romBanks ∧
    (0x00FF : Word).toNat < 0x0100 ∧ 0x0100 ≤ (0x0100 : Word).toNat ∧ (0x7FFF : Word).toNat < 0x8000 ∧
    0xFEA0 ≤ (0xFEA0 : Word).toNat ∧ (0xFEFF : Word).toNat < 0xFF00 ∧
    State.reset.bus.bootMapped = false ∧
    ({ State.reset with bus := { Bus.reset with bootMapped := true } } : State).bus.bootMapped = true ∧
    (memWrite 0xC000 0x01 { State.reset with bus := { Bus.reset with bootMapped := true } }).bus.bootMapped =
      true := by
  decide

/-- A state with a given mapper and RAM size. -/
def withCart (m : Mapper) (ramSize : Nat) : State :=
  { State.reset with cart := { Cartridge.blank with mapper := m, ramSize := ramSize } }

/-- A read of IF is recorded with its value, 0xE0 after reset (R6, R73, R467). -/
theorem test_record_if : (memRead 0xFF0F State.reset).2.bus.events = [.regRd 0xFF0F 0xE0] := by decide

/-- Writes to a mapper register, to an address that selects none, and to the clock latch (R6, R116, R126, R133). -/
theorem test_record_mapper :
    (memWrite 0x2000 0x05 (withCart (.mbc1 { ramg := false, bank1 := 1, bank2 := 0, mode := false }) 0)).bus.events =
      [.mapperWr 0x2000 0x05] ∧
    (memWrite 0x4000 0x05 (withCart (.mbc2 { ramg := false, romb := 1 }) 0)).bus.events = [] ∧
    (memWrite 0x6000 0x01 (withCart (.mbc3 true { ramg := true, romb := 1, sel := 0x8 }) 0)).bus.events =
      [.rtcLatch 0x01] := by
  decide

/-- Peek of a clock register gives what a read would, whatever stands for an I/O address (R77, R136). -/
theorem test_peek_clock (u : Byte) :
    peek u 0xA000 (withCart (.mbc3 true { ramg := true, romb := 1, sel := 0x8 }) 0) = Config.rtcRead 0x8 [] := rfl

/-- IoAccessesAreRecorded, PeekGivesWhatAReadGives: the ends of the I/O range, the two registers in it, a mapper
register, a clock register, and addresses on both sides that are none of these. -/
theorem witness_io :
    (0xFF00 ≤ (0xFF00 : Word).toNat ∧ (0xFF00 : Word) ≠ 0xFF0F ∧ (0xFF00 : Word) ≠ 0xFF50) ∧
    ((0xFF7F : Word).toNat < 0xFF80 ∧ (0xFF7F : Word) ≠ 0xFF0F ∧ (0xFF7F : Word) ≠ 0xFF50) ∧
    ¬ (0xFF00 ≤ (0xFF0F : Word).toNat ∧ (0xFF0F : Word).toNat < 0xFF80 ∧ (0xFF0F : Word) ≠ 0xFF0F ∧
      (0xFF0F : Word) ≠ 0xFF50) ∧
    target 0xFF80 State.reset = .cell (.hram 0) ∧ 0xFF80 ≤ (0xFF80 : Word).toNat ∧
    target 0xFEFF State.reset = .unusable ∧ (0xFEFF : Word).toNat < 0xFF00 ∧
    target 0x00FF State.reset = .lowRom ∧ (0x00FF : Word).toNat < 0x0100 ∧
    0x0100 ≤ (0x0100 : Word).toNat ∧ (0x7FFF : Word).toNat < 0x8000 ∧
    target 0xA000 (withCart (.mbc3 true { ramg := true, romb := 1, sel := 0x8 }) 0) = .clock 0x8 ∧
    target 0xBFFF (withCart (.mbc3 true { ramg := true, romb := 1, sel := 0xC }) 0) = .clock 0xC := by
  decide

/-- Mbc1Cartridge, Mbc2Cartridge, Mbc5Cartridge: RAM disabled, absent and enabled, and the ends of the ranges. -/
theorem witness_mapper :
    (withCart (.mbc1 { ramg := true, bank1 := 1, bank2 := 0, mode := true }) 0x2000).cart.ramSize ≠ 0 ∧
    (withCart (.mbc1 { ramg := true, bank1 := 1, bank2 := 0, mode := true }) 0).cart.ramSize = 0 ∧
    (withCart (.mbc2 { ramg := true, romb := 1 }) 0).cart.mapper = .mbc2 { ramg := true, romb := 1 } ∧
    (withCart (.mbc5 true { ramg := true, romb := 1, ramb := 7 }) 0x20000).cart.ramSize ≠ 0 ∧
    (0x1FFF : Word).toNat < 0x2000 ∧ 0x2000 ≤ (0x2000 : Word).toNat ∧ (0x2FFF : Word).toNat < 0x3000 ∧
    (0x3FFF : Word).toNat < 0x4000 ∧ 0x4000 ≤ (0x4000 : Word).toNat ∧ (0x5FFF : Word).toNat < 0x6000 ∧
    0x6000 ≤ (0x6000 : Word).toNat ∧ 0xA000 ≤ (0xA000 : Word).toNat ∧ (0xBFFF : Word).toNat < 0xC000 ∧
    (0x0100 : Word).toNat / 256 % 2 = 1 ∧ (0x0200 : Word).toNat / 256 % 2 = 0 := by
  decide

/-- Mbc3Cartridge: a RAM bank, a clock register at each end, and neither. -/
theorem witness_mbc3 :
    (∀ k : BitVec 4, (withCart (.mbc3 true { ramg := true, romb := 1, sel := k }) 0x2000).cart.mapper =
      .mbc3 true { ramg := true, romb := 1, sel := k }) ∧
    (3 : BitVec 4).toNat ≤ 3 ∧ 0x08 ≤ (8 : BitVec 4).toNat ∧ (0xC : BitVec 4).toNat ≤ 0x0C ∧
    (3 < (4 : BitVec 4).toNat ∧ (4 : BitVec 4).toNat < 0x08) ∧ 0x0C < (0xD : BitVec 4).toNat := by
  decide

/-- DecodeOfEncode, DecodingIsTotalAndFaithful: a well-formed instruction, and two strings with one first byte. -/
theorem witness_decode :
    WellFormed (.ld_BC_nn 0xFFFF) = true ∧
    decode [0xC3, 0x50, 0x01] = .ok (.jp_nn 0x0150, []) ∧ decode [0xC3, 0, 0] = .ok (.jp_nn 0, []) :=
  ⟨rfl, rfl, rfl⟩

/-- Jumps, CallsAndRestarts, Returns: each condition holds in one state and fails in another. -/
theorem witness_conditions :
    holds .nz (withF 0x00 State.reset) ∧ ¬ holds .nz (withF 0x80 State.reset) ∧
    holds .z (withF 0x80 State.reset) ∧ ¬ holds .z (withF 0x00 State.reset) ∧
    holds .nc (withF 0x00 State.reset) ∧ ¬ holds .nc (withF 0x10 State.reset) ∧
    holds .c (withF 0x10 State.reset) ∧ ¬ holds .c (withF 0x00 State.reset) := by
  unfold holds
  decide

theorem runs_start (bytes : List Byte) : RunsInstruction (start bytes [] r0) := ⟨rfl, rfl, .inl rfl⟩

/-- InvalidSlotsStopTheMachine: an INVALID opcode at PC, and a faulted state. -/
theorem witness_invalid :
    0xD3 ∈ invalidSlots ∧ 0xFD ∈ invalidSlots ∧ encode .invalid_D3 = [0xD3] ∧ encode .invalid_FD = [0xFD] ∧
    RunsInstruction (start [0xD3] [] r0) ∧ readValue 0x0100 (start [0xD3] [] r0) = 0xD3 ∧
    (∃ (t : State) (f : InvalidOpcode), t.fault = some f) :=
  ⟨by decide, by decide, rfl, rfl, runs_start _, by decide,
    ⟨{ State.reset with fault := some { op := .plain 0xD3, addr := 0 } }, _, rfl⟩⟩

/-- StepRunsDecodedInstruction: instructions of one, two and three bytes at PC. -/
theorem witness_step_runs :
    RunsInstruction (start [0x00] [] r0) ∧ decode (fetched 1 (start [0x00] [] r0)).1 = .ok (.nop, []) ∧
    decode (fetched 2 (start [0xCB, 0x37] [] r0)).1 = .ok (.swap_A, []) ∧
    decode (fetched 3 (start [0xC3, 0x50, 0x01] [] r0)).1 = .ok (.jp_nn 0x0150, []) := by
  refine ⟨runs_start _, ?_, ?_, ?_⟩
  · rw [show (fetched 1 (start [0x00] [] r0)).1 = [0x00] by decide]; rfl
  · rw [show (fetched 2 (start [0xCB, 0x37] [] r0)).1 = [0xCB, 0x37] by decide]; rfl
  · rw [show (fetched 3 (start [0xC3, 0x50, 0x01] [] r0)).1 = [0xC3, 0x50, 0x01] by decide]; rfl

/-- ImeCommitAfterOneInstruction: EI, RETI, DI, an INVALID slot and a NOP at PC, each with the enable scheduled or
not; a halted step; a dispatch. -/
theorem witness_ime :
    (fetched 1 (start [0xFB] [] r0)).1 = [0xFB] ∧ decode [0xFB] = .ok (.ei, []) ∧
    decode [0xD9] = .ok (.reti, []) ∧ decode [0xF3] = .ok (.di, []) ∧ IsInvalid .invalid_D3 ∧
    ¬ IsInvalid .nop ∧
    RunsInstruction { start [0xF3] [] r0 with imeSched := true } ∧
    (∃ t, step { State.reset with halted := true } = .next t) ∧
    (∃ t, step { State.reset with ime := true, irq := { ie := 0x01, ifr := 0x01 } } = .next t) ∧
    (nextOf (step (start [0x76] [] r0))).map (fun t => t.halted) = some true := by
  refine ⟨by decide, rfl, rfl, rfl, ⟨0xD3, by decide, rfl⟩, ?_, ⟨rfl, rfl, .inl rfl⟩, ⟨_, rfl⟩, ⟨_, rfl⟩,
    by decide⟩
  rintro ⟨op, h, e⟩
  cases e
  revert h
  decide

/-- HaltedSteps: halted without and with a pending source, interrupts off and on. -/
theorem witness_halted :
    let quiet : State := { State.reset with halted := true, irq := { ie := 0x00, ifr := 0x1F } }
    let woken : State := { State.reset with halted := true, irq := { ie := 0x10, ifr := 0x10 } }
    (quiet.fault = none ∧ quiet.halted = true ∧ quiet.irq.ie.setWidth 5 &&& quiet.irq.ifr = 0) ∧
    (woken.fault = none ∧ woken.halted = true ∧ woken.irq.ie.setWidth 5 &&& woken.irq.ifr ≠ 0 ∧
      woken.ime = false) ∧
    ({ woken with ime := true } : State).irq.ie.setWidth 5 &&& woken.irq.ifr ≠ 0 := by
  decide

/-- HostRequestsOnlySetIfBits: a running state with the first and the last source enabled and
none pending. -/
theorem witness_host_requests :
    let s : State := { State.reset with ime := true, irq := { ie := 0x11, ifr := 0x00 } }
    s.fault = none ∧ s.halted = false ∧ s.ime = true ∧
    s.irq.ie.getLsbD IrqSource.vblank.index = true ∧ s.irq.ie.getLsbD IrqSource.joypad.index = true ∧
    ∀ j : Fin 5, (pending s).getLsbD j.val = false := by
  decide

/-- A running state with interrupts on, all sources enabled and those of `p` requested. -/
def dispatching (p : BitVec 5) : State :=
  { State.reset with ime := true, irq := { ie := 0xFF, ifr := p } }

/-- InterruptDispatch: every source is the first pending one of some state. -/
theorem witness_dispatch :
    (dispatching 0).fault = none ∧ (dispatching 0).halted = false ∧ (dispatching 0).ime = true ∧
    ∀ k : Fin 5, (pending (dispatching (BitVec.ofNat 5 (2 ^ k.val)))).getLsbD k.val = true ∧
      ∀ j : Fin 5, j < k → (pending (dispatching (BitVec.ofNat 5 (2 ^ k.val)))).getLsbD j.val = false := by
  decide

/-- StepKeepsInvariant, RomAndBootNeverChange: a state of the invariant with a next state. -/
theorem witness_invariant :
    (start [0x00] [] r0).Inv = true ∧ ∃ t, step (start [0x00] [] r0) = .next t :=
  ⟨by decide, ⟨_, rfl⟩⟩

/-- CyclesMatchTheCatalog: a taken, an untaken and a fixed cost. -/
theorem witness_costs :
    costOf (descriptor .ret_NZ) { z := false, n := false, h := false, c := false } = some 20 ∧
    costOf (descriptor .ret_NZ) { z := true, n := false, h := false, c := false } = some 8 ∧
    costOf (descriptor .nop) { z := true, n := false, h := false, c := false } = some 4 := by
  decide

/-- ControlFlagsAreWrittenOnlyBy: steps that change IME both ways, and one that wakes the CPU. -/
theorem witness_control_flags :
    (nextOf (step { start [0xF3] [] r0 with ime := true })).map (fun t => t.ime) = some false ∧
    (nextOf (step { start [0x00] [] r0 with imeSched := true })).map (fun t => t.ime) = some true ∧
    (nextOf (step { start [] [] r0 with halted := true, irq := { ie := 0x04, ifr := 0x04 } })).map
      (fun t => t.halted) = some false := by
  decide

end Sys2Proof.Tests
end

section
/-!
PROOFS, the record of accesses (R6). What a read and a store add to the record, said once for every target
(`readEvents`, `storeEvents`), and where each target lies; O16 follows from these.
-/

namespace Sys2Proof.Machine

open Sys2Proof.Statements

/-! ### Where a target lies -/

/-- The addresses from which a target can be reached (R62); the echo reaches WRAM too (R69). -/
def Target.holds (t : Target) (n : Nat) : Prop :=
  match t with
  | .boot | .lowRom => Region.lowRom.holds n
  | .rom => Region.rom.holds n
  | .cell (.vram _) => Region.vram.holds n
  | .cell (.wram _) => Region.wram.holds n ∨ Region.echo.holds n
  | .cell (.oam _) => Region.oam.holds n
  | .cell (.hram _) => Region.hram.holds n
  | .cell (.cartRam _) | .clock _ | .absent => Region.cartRam.holds n
  | .unusable => Region.unusable.holds n
  | .io => Region.io.holds n
  | .ifReg => Region.ifReg.holds n
  | .unmapReg => Region.unmapReg.holds n
  | .ieReg => Region.ieReg.holds n

/-- An address lies among those from which its target can be reached. -/
theorem target_holds (a : Word) (s : State) : (target a s).holds a.toNat := by
  have h := region_holds a
  unfold target
  generalize region a = r at h ⊢
  cases r with
  | lowRom => cases s.bus.bootMapped <;> exact h
  | cartRam => cases s.cart.ramTarget a <;> exact h
  | wram => exact .inl h
  | echo => exact .inr h
  | _ => exact h

/-- The addresses of the I/O region but for the two registers of the core are unmodelled (R72). -/
theorem target_of_io {a : Word} (s : State) (lo : 0xFF00 ≤ a.toNat) (hi : a.toNat < 0xFF80)
    (hif : a ≠ 0xFF0F) (hunmap : a ≠ 0xFF50) : target a s = .io := by
  have hr : region a = .io := region_eq ⟨lo, hi,
    fun e => hif (BitVec.eq_of_toNat_eq e), fun e => hunmap (BitVec.eq_of_toNat_eq e)⟩
  rw [target, hr]

theorem target_of_rom {a : Word} (s : State) (lo : 0x0100 ≤ a.toNat) (hi : a.toNat < 0x8000) :
    target a s = .rom := by
  have hr : region a = .rom := region_eq ⟨lo, hi⟩
  rw [target, hr]

@[simp] theorem target_FF0F (s : State) : target 0xFF0F s = .ifReg := rfl

@[simp] theorem target_FF50 (s : State) : target 0xFF50 s = .unmapReg := rfl

/-! ### Reads -/

/-- What a CPU read adds to the record (R6, R72, R136). -/
def readEvents (a : Word) (s : State) : List BusEvent :=
  match target a s with
  | .io => [.ioRd a (ioValue a s)]
  | .ifReg | .unmapReg => [.regRd a (readValue a s)]
  | .clock sel => [.rtcRd sel (clockValue a s)]
  | _ => []

/-- A read changes the record alone, by `readEvents` (R6, R82). -/
theorem afterRead_eq_recorded (a : Word) (s : State) : afterRead a s = recorded (readEvents a s) s := by
  unfold afterRead readEvents
  cases target a s <;> rfl

theorem readValue_of_io {a : Word} {s : State} (h : target a s = .io) :
    readValue a s = Config.ioRead a s.bus.events := by
  simp only [readValue, busValue, h, ioValue]

theorem clockValue_of_clock {a : Word} {s : State} {sel : BitVec 4} (h : target a s = .clock sel) :
    clockValue a s = Config.rtcRead sel s.bus.events := by
  simp only [clockValue, h]

theorem readValue_of_clock {a : Word} {s : State} {sel : BitVec 4} (h : target a s = .clock sel) :
    readValue a s = Config.rtcRead sel s.bus.events := by
  simp only [readValue, busValue, h, clockValue_of_clock h]

theorem memRead_of_io {a : Word} {s : State} (h : target a s = .io) :
    memRead a s = (Config.ioRead a s.bus.events,
      recorded [.ioRd a (Config.ioRead a s.bus.events)] s) := by
  have hev : readEvents a s = [.ioRd a (Config.ioRead a s.bus.events)] := by
    simp only [readEvents, h, ioValue]
  rw [memRead, afterRead_eq_recorded, hev, readValue_of_io h]

theorem memRead_of_clock {a : Word} {s : State} {sel : BitVec 4} (h : target a s = .clock sel) :
    memRead a s = (Config.rtcRead sel s.bus.events,
      recorded [.rtcRd sel (Config.rtcRead sel s.bus.events)] s) := by
  have hev : readEvents a s = [.rtcRd sel (Config.rtcRead sel s.bus.events)] := by
    simp only [readEvents, h, clockValue_of_clock h]
  rw [memRead, afterRead_eq_recorded, hev, readValue_of_clock h]

/-- Outside the I/O region a read that reaches no clock register changes nothing (R82). -/
theorem afterRead_eq_self {a : Word} {s : State} (ha : a.toNat < 0xFF00 ∨ 0xFF80 ≤ a.toNat)
    (hclock : ∀ sel, target a s ≠ .clock sel) : afterRead a s = s := by
  have hev : readEvents a s = [] := by
    have hr := target_holds a s
    unfold readEvents
    split
    case h_4 sel e => exact absurd e (hclock sel)
    case h_5 => rfl
    all_goals
      rename_i e
      simp only [e, Target.holds, Region.holds] at hr
      omega
  rw [afterRead_eq_recorded, hev]
  rfl

/-! ### Stores -/

/-- What a store adds to the record (R6, R72, R133, R137). -/
def storeEvents (a : Word) (v : Byte) (s : State) : List BusEvent :=
  match target a s with
  | .rom => s.cart.mapper.writeRomEvents a v
  | .io => [.ioWr a v]
  | .ifReg | .unmapReg => [.regWr a v]
  | .clock sel => [.rtcWrite sel v]
  | _ => []

/-- A store adds `storeEvents` to the record (R6). -/
theorem memWrite_bus_events (a : Word) (v : Byte) (s : State) :
    (memWrite a v s).bus.events = storeEvents a v s ++ s.bus.events := by
  unfold memWrite storeEvents
  cases target a s with
  | cell c => exact writeCell_bus_events c v s
  | unmapReg => dsimp only; split <;> rfl
  | _ => rfl

theorem memWrite_of_io {a : Word} {s : State} (v : Byte) (h : target a s = .io) :
    memWrite a v s = recorded [.ioWr a v] s := by
  rw [memWrite, h]
  rfl

theorem memWrite_of_clock {a : Word} {s : State} {sel : BitVec 4} (v : Byte)
    (h : target a s = .clock sel) : memWrite a v s = recorded [.rtcWrite sel v] s := by
  rw [memWrite, h]
  rfl

theorem storeEvents_of_rom {a : Word} {s : State} (v : Byte) (h : target a s = .rom) :
    storeEvents a v s = s.cart.mapper.writeRomEvents a v := by
  rw [storeEvents, h]

/-- Outside the ROM that stores reach, the I/O region and the clock registers, a store is not recorded
(R6, R64). -/
theorem storeEvents_eq_nil {a : Word} {s : State} (v : Byte)
    (ha : a.toNat < 0xFF00 ∨ 0xFF80 ≤ a.toNat) (hrom : a.toNat < 0x0100 ∨ 0x8000 ≤ a.toNat)
    (hclock : ∀ sel, target a s ≠ .clock sel) : storeEvents a v s = [] := by
  have hr := target_holds a s
  unfold storeEvents
  split
  case h_5 sel e => exact absurd e (hclock sel)
  case h_6 => rfl
  all_goals
    rename_i e
    simp only [e, Target.holds, Region.holds] at hr
    omega

/-- Settles O16: `readEvents` and `storeEvents` for the target of the address, which its range gives. -/
theorem ioAccessesAreRecorded : Obligations.IoAccessesAreRecorded := by
  intro a v s
  refine ⟨fun lo hi hif hunmap => ?_, fun hreg => ?_, fun lo hi => ?_, fun sel hclock => ?_,
    fun ha hclock => ?_⟩
  · have hio := target_of_io s lo hi hif hunmap
    exact ⟨memRead_of_io hio, memWrite_of_io v hio⟩
  · rw [memWrite_bus_events]
    rcases hreg with rfl | rfl <;> exact ⟨rfl, rfl⟩
  · rw [memWrite_bus_events, storeEvents_of_rom v (target_of_rom s lo hi)]
    cases s.cart.mapper <;> rfl
  · exact ⟨memRead_of_clock hclock, memWrite_of_clock v hclock⟩
  · refine ⟨?_, fun hrom => ?_⟩
    · rw [memRead, afterRead_eq_self ha hclock]
    · rw [memWrite_bus_events, storeEvents_eq_nil v ha hrom hclock, List.nil_append]

end Sys2Proof.Machine
end

section
/-!
PROOFS, the register file: the pair views (O7), and F with its flags (O8).
-/

namespace Sys2Proof.Machine

open Sys2Proof.Statements

/-! ### The pair views -/

theorem hi_eq_hiByte (w : Word) : hi w = hiByte w := by
  apply BitVec.eq_of_toNat_eq
  have h := w.isLt
  rw [hiByte_toNat, hi, BitVec.toNat_ofNat]
  omega

theorem lo_eq_loByte (w : Word) : lo w = loByte w := by
  apply BitVec.eq_of_toNat_eq
  rw [loByte_toNat, lo, BitVec.toNat_ofNat]
  omega

/-- Settles O7: the model's byte halves are the statement's, and the rest is how the views are written. -/
theorem pairViewsAlias : Obligations.PairViewsAlias := by
  intro r v x
  rw [hi_eq_hiByte, lo_eq_loByte]
  exact ⟨rfl, rfl, rfl, rfl, rfl, rfl, rfl, rfl, rfl, rfl, rfl, rfl, rfl, rfl, rfl, rfl⟩

/-! ### F and its flags -/

theorem Flags.toF_eq_fByte (fl : Flags) : fl.toF = fByte fl.z fl.n fl.h fl.c := by
  obtain ⟨z, n, h, c⟩ := fl
  revert z n h c
  decide

/-- The flag byte has a zero low nibble, so the mask of a write to F leaves it (R21). -/
theorem Flags.toF_masked (fl : Flags) : fl.toF &&& 0xF0 = fl.toF := by
  obtain ⟨z, n, h, c⟩ := fl
  revert z n h c
  decide

@[simp] theorem Flags.ofF_toF (fl : Flags) : Flags.ofF fl.toF = fl := by
  obtain ⟨z, n, h, c⟩ := fl
  revert z n h c
  decide

/-- The mask of a write to F keeps the four flags (R21, R23). -/
theorem Flags.ofF_masked (v : Byte) : Flags.ofF (v &&& 0xF0) = Flags.ofF v := by
  simp [Flags.ofF]

theorem RegisterFile.setFlags_eq (r : RegisterFile) (fl : Flags) : r.setFlags fl = { r with f := fl.toF } := by
  rw [RegisterFile.setFlags, RegisterFile.set8, Flags.toF_masked]

@[simp] theorem RegisterFile.flags_setFlags (r : RegisterFile) (fl : Flags) : (r.setFlags fl).flags = fl := by
  rw [RegisterFile.setFlags_eq, RegisterFile.flags, Flags.ofF_toF]

theorem RegisterFile.flags_set8_f (r : RegisterFile) (v : Byte) : (r.set8 .f v).flags = Flags.ofF v :=
  Flags.ofF_masked v

/-- Writing one flag is a write of all four (R10). -/
theorem RegisterFile.setFlag_eq_setFlags (r : RegisterFile) (x : FlagName) (b : Bool) :
    ∃ fl, r.setFlag x b = r.setFlags fl := by
  cases x <;> exact ⟨_, rfl⟩

theorem RegisterFile.getFlag_setFlag (r : RegisterFile) (x y : FlagName) (b : Bool) :
    (r.setFlag x b).getFlag y = if y = x then b else r.getFlag y := by
  cases x <;> cases y <;> simp [RegisterFile.setFlag, RegisterFile.getFlag]

theorem RegisterFile.setFlags_f_low (r : RegisterFile) (fl : Flags) : (r.setFlags fl).f &&& 0x0F = 0 := by
  rw [RegisterFile.setFlags, RegisterFile.set8, BitVec.and_assoc]
  exact BitVec.and_zero

/-- Settles O8: a write of F is masked, the flags of the flag byte are the four written, and writing one flag is
a write of all four. -/
theorem flagsOfF : Obligations.FlagsOfF := by
  intro r v w fl x y b n p
  have hflags := r.flags_set8_f v
  obtain ⟨fl', hset⟩ := r.setFlag_eq_setFlags x b
  refine ⟨rfl, congrArg Flags.z hflags, congrArg Flags.n hflags, congrArg Flags.h hflags,
    congrArg Flags.c hflags, ?_, r.getFlag_setFlag x y b, ?_, ?_, fun hf => ⟨?_, ?_⟩⟩
  · rw [r.setFlags_eq, fl.toF_eq_fByte]
  · rw [hset, r.setFlags_eq]
  · rw [hset, r.setFlags_f_low]
  · exact r.set8_f_low n v hf
  · exact r.set16_f_low p w hf

end Sys2Proof.Machine
end

section
/-!
PROOFS, fetching and decoding. The bytes that fetches at PC give decode to what `fetchInstr` answers, and to
nothing else (O50); an INVALID slot decodes to the one instruction that stops the machine (O49).
-/

namespace Sys2Proof

open Sys2Proof.Machine Sys2Proof.Statements

/-! ### No entry of the catalog is the escape alone (R175) -/

theorem wellFormed_iff (i : Instr) : WellFormed i = true ↔ i ≠ .prefixCb := by
  simp [WellFormed, Instr.isEscape]

@[simp] theorem Instr.ld_ne_prefixCb (m k : Rm) : Instr.ld m k ≠ .prefixCb := by
  rcases m with ⟨⟨⟩⟩ | _ <;> rcases k with ⟨⟨⟩⟩ | _ <;> nofun
@[simp] theorem Instr.ldImm_ne_prefixCb (m : Rm) (n : Byte) : Instr.ldImm m n ≠ .prefixCb := by
  rcases m with ⟨⟨⟩⟩ | _ <;> nofun
@[simp] theorem Instr.inc_ne_prefixCb (m : Rm) : Instr.inc m ≠ .prefixCb := by
  rcases m with ⟨⟨⟩⟩ | _ <;> nofun
@[simp] theorem Instr.dec_ne_prefixCb (m : Rm) : Instr.dec m ≠ .prefixCb := by
  rcases m with ⟨⟨⟩⟩ | _ <;> nofun
@[simp] theorem Instr.alu_ne_prefixCb (op : AluOp) (m : Rm) : Instr.alu op m ≠ .prefixCb := by
  cases op <;> rcases m with ⟨⟨⟩⟩ | _ <;> nofun
@[simp] theorem Instr.aluImm_ne_prefixCb (op : AluOp) (n : Byte) : Instr.aluImm op n ≠ .prefixCb := by
  cases op <;> nofun
@[simp] theorem Instr.ldPair_ne_prefixCb (p : Rp) (nn : Word) : Instr.ldPair p nn ≠ .prefixCb := by
  cases p <;> nofun
@[simp] theorem Instr.addHL_ne_prefixCb (p : Rp) : Instr.addHL p ≠ .prefixCb := by cases p <;> nofun
@[simp] theorem Instr.incPair_ne_prefixCb (p : Rp) : Instr.incPair p ≠ .prefixCb := by cases p <;> nofun
@[simp] theorem Instr.decPair_ne_prefixCb (p : Rp) : Instr.decPair p ≠ .prefixCb := by cases p <;> nofun
@[simp] theorem Instr.pop_ne_prefixCb (p : Rp2) : Instr.pop p ≠ .prefixCb := by cases p <;> nofun
@[simp] theorem Instr.push_ne_prefixCb (p : Rp2) : Instr.push p ≠ .prefixCb := by cases p <;> nofun
@[simp] theorem Instr.jrCond_ne_prefixCb (k : Cond) (e : Byte) : Instr.jrCond k e ≠ .prefixCb := by
  cases k <;> nofun
@[simp] theorem Instr.jpCond_ne_prefixCb (k : Cond) (nn : Word) : Instr.jpCond k nn ≠ .prefixCb := by
  cases k <;> nofun
@[simp] theorem Instr.callCond_ne_prefixCb (k : Cond) (nn : Word) : Instr.callCond k nn ≠ .prefixCb := by
  cases k <;> nofun
@[simp] theorem Instr.retCond_ne_prefixCb (k : Cond) : Instr.retCond k ≠ .prefixCb := by cases k <;> nofun
@[simp] theorem Instr.rst_ne_prefixCb (y : Fin 8) : Instr.rst y ≠ .prefixCb := by fin_cases y <;> nofun
@[simp] theorem Instr.rot_ne_prefixCb (k : RotOp) (m : Rm) : Instr.rot k m ≠ .prefixCb := by
  cases k <;> rcases m with ⟨⟨⟩⟩ | _ <;> nofun
@[simp] theorem Instr.bit_ne_prefixCb (b : Fin 8) (m : Rm) : Instr.bit b m ≠ .prefixCb := by
  fin_cases b <;> rcases m with ⟨⟨⟩⟩ | _ <;> nofun
@[simp] theorem Instr.res_ne_prefixCb (b : Fin 8) (m : Rm) : Instr.res b m ≠ .prefixCb := by
  fin_cases b <;> rcases m with ⟨⟨⟩⟩ | _ <;> nofun
@[simp] theorem Instr.set_ne_prefixCb (b : Fin 8) (m : Rm) : Instr.set b m ≠ .prefixCb := by
  fin_cases b <;> rcases m with ⟨⟨⟩⟩ | _ <;> nofun

theorem decodeCb_ne_prefixCb (b : Byte) : decodeCb b ≠ .prefixCb := by
  unfold decodeCb
  split <;> simp

theorem decodeX0_ne_prefixCb (b b1 b2 : Byte) : (decodeX0 b).instr b1 b2 ≠ .prefixCb := by
  unfold decodeX0
  split <;> (try split) <;> simp [Entry.instr]

theorem decodeX3_ne_prefixCb (b b1 b2 : Byte) : (decodeX3 b).instr b1 b2 ≠ .prefixCb := by
  unfold decodeX3
  split <;> (try split) <;> (try split) <;> simp [Entry.instr, decodeCb_ne_prefixCb]

/-- Whatever bytes follow, the instruction the decoder reads is complete (R175, R180). -/
theorem decodeBytes_wellFormed (op b1 b2 : Byte) : WellFormed (decodeBytes op b1 b2) = true := by
  rw [wellFormed_iff, decodeBytes, decodeMain]
  split
  · exact decodeX0_ne_prefixCb op b1 b2
  · exact Instr.ld_ne_prefixCb _ _
  · exact Instr.alu_ne_prefixCb _ _
  · exact decodeX3_ne_prefixCb op b1 b2

/-- A byte string that decodes with nothing left is the first byte of an entry and the immediate bytes the entry
asks for (R160). -/
theorem decode_eq_ok_nil {bytes : List Byte} {i : Instr} (h : decode bytes = .ok (i, [])) :
    (∃ op, bytes = [op] ∧ decodeMain op = .one i) ∨
    (∃ op b1 f, bytes = [op, b1] ∧ decodeMain op = .two f ∧ i = f b1) ∨
    (∃ op b1 b2 f, bytes = [op, b1, b2] ∧ decodeMain op = .three f ∧ i = f (wordOf b2 b1)) := by
  unfold decode at h
  split at h
  · cases h
  · split at h
    · rename_i hop
      cases h
      exact .inl ⟨_, rfl, hop⟩
    · rename_i hop
      cases h
      exact .inr (.inl ⟨_, _, _, rfl, hop, rfl⟩)
    · rename_i hop
      cases h
      exact .inr (.inr ⟨_, _, _, _, rfl, hop, rfl⟩)
    · cases h

end Sys2Proof

namespace Sys2Proof.Machine

open Sys2Proof.Statements

/-! ### The fetched bytes decode to the instruction that is run -/

theorem fetched_succ (n : Nat) (s : State) :
    fetched (n + 1) s = ((fetch8 s).1 :: (fetched n (fetch8 s).2).1, (fetched n (fetch8 s).2).2) := rfl

theorem fetched_length (n : Nat) (s : State) : (fetched n s).1.length = n := by
  induction n generalizing s with
  | zero => rfl
  | succ n ih => rw [fetched_succ, List.length_cons, ih]

theorem fetched_pc (n : Nat) (s : State) : (fetched n s).2.regs.pc = s.regs.pc + BitVec.ofNat 16 n := by
  induction n generalizing s with
  | zero => simp [fetched]
  | succ n ih =>
    rw [fetched_succ, ih, fetch8_regs_pc, BitVec.add_assoc, Nat.add_comm n 1, BitVec.ofNat_add]
    rfl

theorem fetchInstr_of_one {s : State} {i : Instr} (h : decodeMain (fetch8 s).1 = .one i) :
    fetchInstr s = (i, (fetched 1 s).2) := by
  rw [fetchInstr, h]
  rfl

theorem fetchInstr_of_two {s : State} {f : Byte → Instr} (h : decodeMain (fetch8 s).1 = .two f) :
    fetchInstr s = (f (fetch8 (fetch8 s).2).1, (fetched 2 s).2) := by
  rw [fetchInstr, h]
  rfl

theorem fetchInstr_of_three {s : State} {f : Word → Instr} (h : decodeMain (fetch8 s).1 = .three f) :
    fetchInstr s = (f (wordOf (fetch8 (fetch8 (fetch8 s).2).2).1 (fetch8 (fetch8 s).2).1),
      (fetched 3 s).2) := by
  rw [fetchInstr, h]
  rfl

/-- The instruction a step fetches is what the bytes at PC decode to, one to three of them (R160, R391). -/
theorem exists_decode_fetched (s : State) :
    ∃ n, 1 ≤ n ∧ n ≤ 3 ∧ decode (fetched n s).1 = .ok ((fetchInstr s).1, []) := by
  cases h : decodeMain (fetch8 s).1 with
  | one i => exact ⟨1, le_rfl, by decide, by rw [fetchInstr_of_one h]; exact decode_one [] h⟩
  | two f => exact ⟨2, by decide, by decide, by rw [fetchInstr_of_two h]; exact decode_two _ [] h⟩
  | three f => exact ⟨3, by decide, le_rfl, by rw [fetchInstr_of_three h]; exact decode_three _ _ [] h⟩

/-- Fetched bytes that decode with nothing left are the bytes `fetchInstr` fetches, and give its instruction. -/
theorem fetchInstr_of_decode_fetched {n : Nat} {s : State} {i : Instr}
    (h : decode (fetched n s).1 = .ok (i, [])) : fetchInstr s = (i, (fetched n s).2) := by
  have hlen := fetched_length n s
  obtain ⟨op, e, hop⟩ | ⟨op, b1, f, e, hop, rfl⟩ | ⟨op, b1, b2, f, e, hop, rfl⟩ := decode_eq_ok_nil h <;>
    rw [e] at hlen <;> cases hlen
  · cases e
    exact fetchInstr_of_one hop
  · cases e
    exact fetchInstr_of_two hop
  · cases e
    exact fetchInstr_of_three hop

theorem fetchInstr_wellFormed (s : State) : WellFormed (fetchInstr s).1 = true := by
  cases h : decodeMain (fetch8 s).1 with
  | one i =>
    have hw := decodeBytes_wellFormed (fetch8 s).1 0 0
    rw [fetchInstr_of_one h]
    rwa [decodeBytes, h] at hw
  | two f =>
    have hw := decodeBytes_wellFormed (fetch8 s).1 (fetch8 (fetch8 s).2).1 0
    rw [fetchInstr_of_two h]
    rwa [decodeBytes, h] at hw
  | three f =>
    have hw := decodeBytes_wellFormed (fetch8 s).1 (fetch8 (fetch8 s).2).1 (fetch8 (fetch8 (fetch8 s).2).2).1
    rw [fetchInstr_of_three h]
    rwa [decodeBytes, h] at hw

/-! ### The step that runs an instruction -/

/-- A step that begins Running, with no fault and nothing to dispatch, runs the instruction at PC (R390). -/
theorem step_of_runsInstruction {s : State} (h : RunsInstruction s) :
    step s = commitResult s.imeSched (exec (fetchInstr s).1 (fetchInstr s).2) := by
  obtain ⟨hf, hh, hd⟩ := h
  rcases cycle_cases s with ⟨f, e, -⟩ | ⟨-, e, -⟩ | ⟨-, e, -⟩ | ⟨k, -, -, hi, hk, -⟩ | ⟨-, -, -, e⟩
  · cases hf.symm.trans e
  · cases hh.symm.trans e
  · cases hh.symm.trans e
  · obtain hoff | hnone := hd
    · cases hoff.symm.trans hi
    · cases ((firstPending_eq_none _).mpr hnone).symm.trans hk
  · exact e

theorem commitIme_eq_ite (sched : Bool) (s : State) :
    commitIme sched s = if sched = true ∧ s.imeSched = true ∧ s.fault = none then
      { s with ime := true, imeSched := false } else s := by
  simp only [commitIme, Bool.and_eq_true, Option.isNone_iff_eq_none, and_assoc]

/-- Settles O50: the fetched bytes decode to what `fetchInstr` answers, and a running step executes it. -/
theorem stepRunsDecodedInstruction : Obligations.StepRunsDecodedInstruction := by
  intro s hs
  obtain ⟨n, h1, h3, hdecode⟩ := exists_decode_fetched s
  refine ⟨⟨n, _, h1, h3, hdecode⟩, fun n i h => ?_⟩
  have hfetch := fetchInstr_of_decode_fetched h
  refine ⟨?_, fetched_pc n s, ?_⟩
  · have hw := fetchInstr_wellFormed s
    rwa [hfetch] at hw
  · rw [step_of_runsInstruction hs, hfetch]
    cases exec i (fetched n s).2 with
    | next t => simp only [commitResult, commitIme_eq_ite]
    | fault f => rfl
    | refused r => rfl

/-! ### The INVALID slots -/

/-- The entry of an INVALID slot is one instruction, and its meaning raises the fault of that slot (R399). -/
theorem invalidSlot_entry : ∀ op ∈ invalidSlots, ∃ i, decodeMain op = .one i ∧
    ∀ s, exec i s = raiseInvalidOpcode (.plain op) (s.regs.pc - 1) s := by
  simp only [invalidSlots, List.forall_mem_cons, List.not_mem_nil, false_imp_iff, implies_true, and_true]
  exact ⟨⟨_, rfl, exec_invalid_D3⟩, ⟨_, rfl, exec_invalid_DB⟩, ⟨_, rfl, exec_invalid_DD⟩,
    ⟨_, rfl, exec_invalid_E3⟩, ⟨_, rfl, exec_invalid_E4⟩, ⟨_, rfl, exec_invalid_EB⟩,
    ⟨_, rfl, exec_invalid_EC⟩, ⟨_, rfl, exec_invalid_ED⟩, ⟨_, rfl, exec_invalid_F4⟩,
    ⟨_, rfl, exec_invalid_FC⟩, ⟨_, rfl, exec_invalid_FD⟩⟩

/-- A one-byte encoding is that of the entry of its byte (R173), but for the escape. -/
theorem decodeMain_of_encode {i : Instr} {op : Byte} (h : encode i = [op]) (hi : i ≠ .prefixCb) :
    decodeMain op = .one i := by
  cases i
  case prefixCb => exact absurd rfl hi
  all_goals (cases h <;> rfl)

theorem exec_invalidSlot {i : Instr} {op : Byte} (s : State) (hop : op ∈ invalidSlots)
    (hi : encode i = [op]) : exec i s = raiseInvalidOpcode (.plain op) (s.regs.pc - 1) s := by
  obtain ⟨j, hj, hexec⟩ := invalidSlot_entry op hop
  have hne : i ≠ .prefixCb := by
    rintro rfl
    cases hi
    revert hop
    decide
  cases hj.symm.trans (decodeMain_of_encode hi hne)
  exact hexec s

/-- With FAULT set there is no step (R32, R411). -/
theorem step_of_fault {s : State} {f : InvalidOpcode} (h : s.fault = some f) :
    step s = .fault (.invalidOpcode f) := by
  rw [step, cycle, h]

/-- The step that fetches an INVALID slot: one byte fetched, FAULT set, no commit (R392, R399, R411). -/
theorem step_of_invalidSlot {s : State} {op : Byte} (hs : RunsInstruction s) (hop : op ∈ invalidSlots)
    (hread : readValue s.regs.pc s = op) :
    step s = raiseInvalidOpcode (.plain op) s.regs.pc (fetch8 s).2 := by
  obtain ⟨i, hi, hexec⟩ := invalidSlot_entry op hop
  have hfetch : fetchInstr s = (i, (fetch8 s).2) := fetchInstr_of_one (by rwa [fetch8, hread])
  have hpc : (fetch8 s).2.regs.pc - 1 = s.regs.pc := by
    rw [fetch8_regs_pc]
    exact BitVec.add_sub_cancel _ _
  rw [step_of_runsInstruction hs, hfetch, hexec, hpc]
  simp [raiseInvalidOpcode, commitResult, commitIme]

/-- Settles O49: the meaning of the slot, the step that fetches it, and the steps after it. -/
theorem invalidSlotsStopTheMachine : Obligations.InvalidSlotsStopTheMachine := by
  intro op i s hop hi
  refine ⟨exec_invalidSlot s hop hi, fun hs hread => ⟨?_, step_of_fault rfl⟩, fun t f => step_of_fault⟩
  exact step_of_invalidSlot hs hop hread

end Sys2Proof.Machine
end

section
/-!
PROOFS, what one step keeps. `exec_next_cases` and `step_next_cases` say once what an instruction and a step can
do to the state; the invariant (O54), what no program can change (O58) and the writers of the control flags
(O59) follow from these.
-/

namespace Sys2Proof.Machine

open Sys2Proof.Statements

/-! ### What an instruction and a step can do -/

/-- What an instruction that answers a next state has done to the state: the forms of `exec_forms`, as equations
for the next state. -/
theorem exec_next_cases {i : Instr} {s t : State} (h : exec i s = .next t) :
    Keeps s t ∨
    ((i = .halt ∨ ∃ x, i = .stop x) ∧ t = { s with halted := true, report := some (.ok 4) }) ∨
    (i = .di ∧ t = { s with ime := false, imeSched := false, report := some (.ok 4) }) ∨
    (i = .ei ∧ t = { s with imeSched := true, report := some (.ok 4) }) ∨
    (i = .reti ∧ t = { returnTo s with imeSched := true, report := some (.ok 16) }) ∨
    (IsInvalid i ∧ ∃ f, t = { s with fault := some f, report := some (.stopped f) }) := by
  cases exec_forms i s with
  | completes _ _ hc =>
    obtain ⟨u, hu, hk, -⟩ := hc
    cases hu.symm.trans h
    exact .inl hk
  | halts _ hi he => cases he.symm.trans h; exact .inr (.inl ⟨hi, rfl⟩)
  | disables he => cases he.symm.trans h; exact .inr (.inr (.inl ⟨rfl, rfl⟩))
  | enables he => cases he.symm.trans h; exact .inr (.inr (.inr (.inl ⟨rfl, rfl⟩)))
  | returns he => cases he.symm.trans h; exact .inr (.inr (.inr (.inr (.inl ⟨rfl, rfl⟩))))
  | stops _ op hi hop he =>
    cases he.symm.trans h
    exact .inr (.inr (.inr (.inr (.inr ⟨⟨op, hop, hi⟩, _, rfl⟩))))

/-- What a step that answers a next state has done: a halted tick, a wake, a dispatch, or an instruction with
the IME commit after it (R390). -/
theorem step_next_cases {s t : State} (h : step s = .next t) :
    s.fault = none ∧
    ((s.halted = true ∧ t = { s with report := some (.ok 4) }) ∨
    (s.halted = true ∧ pending s ≠ 0 ∧ t = { s with halted := false, report := some (.ok 4) }) ∨
    (∃ k, s.halted = false ∧ s.ime = true ∧ pending s ≠ 0 ∧
      t = { dispatchInterrupt k s with report := some (.ok 20) }) ∨
    (∃ u, s.halted = false ∧ exec (fetchInstr s).1 (fetchInstr s).2 = .next u ∧
      t = commitIme s.imeSched u)) := by
  rcases cycle_cases s with ⟨f, -, e⟩ | ⟨hf, hh, -, e⟩ | ⟨hf, hh, hp, e⟩ | ⟨k, hf, hh, hi, hk, e⟩ |
    ⟨hf, hh, -, e⟩
  · cases e.symm.trans h
  · cases e.symm.trans h
    exact ⟨hf, .inl ⟨hh, rfl⟩⟩
  · cases e.symm.trans h
    exact ⟨hf, .inr (.inl ⟨hh, hp, rfl⟩)⟩
  · cases e.symm.trans h
    have hp : pending s ≠ 0 := fun hz => by rw [(firstPending_eq_none _).mpr hz] at hk; cases hk
    exact ⟨hf, .inr (.inr (.inl ⟨k, hh, hi, hp, rfl⟩))⟩
  · have hc := e.symm.trans h
    cases hu : exec (fetchInstr s).1 (fetchInstr s).2 with
    | next u =>
      rw [hu] at hc
      cases hc
      exact ⟨hf, .inr (.inr (.inr ⟨u, hh, rfl, rfl⟩))⟩
    | fault f => rw [hu] at hc; cases hc
    | refused r => rw [hu] at hc; cases hc

/-! ### The memories, the cartridge and F -/

/-- `t` keeps what no instruction and no dispatch changes: the ROM, the mapper variant and the boot buffer; it
maps no boot ROM anew, and it keeps the canonical form and F's zero low nibble. It is the part of `Keeps` that
does not speak of the control flags. -/
structure KeepsStore (s t : State) : Prop where
  rom : t.cart.rom = s.cart.rom
  romLen : t.cart.romLen = s.cart.romLen
  romBanks : t.cart.romBanks = s.cart.romBanks
  ramSize : t.cart.ramSize = s.cart.ramSize
  boot : t.bus.boot = s.bus.boot
  kind : t.cart.mapper.kind = s.cart.mapper.kind
  bootMapped : t.bus.bootMapped = true → s.bus.bootMapped = true
  memWf : s.memWf = true → t.memWf = true
  fLowZero : s.fLowZero = true → t.fLowZero = true

theorem Keeps.store {s t : State} (h : Keeps s t) : KeepsStore s t :=
  ⟨h.rom, h.romLen, h.romBanks, h.ramSize, h.boot, h.kind, h.bootMapped, h.memWf, h.fLowZero⟩

theorem KeepsStore.trans {s t u : State} (h : KeepsStore s t) (k : KeepsStore t u) : KeepsStore s u where
  rom := k.rom.trans h.rom
  romLen := k.romLen.trans h.romLen
  romBanks := k.romBanks.trans h.romBanks
  ramSize := k.ramSize.trans h.ramSize
  boot := k.boot.trans h.boot
  kind := k.kind.trans h.kind
  bootMapped := fun x => h.bootMapped (k.bootMapped x)
  memWf := fun x => k.memWf (h.memWf x)
  fLowZero := fun x => k.fLowZero (h.fLowZero x)

/-- `KeepsStore` does not look at the control flags, the interrupt controller or the report. -/
theorem KeepsStore.of_units {s t u : State} (h : KeepsStore s t) (hr : u.regs = t.regs) (hb : u.bus = t.bus)
    (hc : u.cart = t.cart) : KeepsStore s u := by
  obtain ⟨h1, h2, h3, h4, h5, h6, h7, h8, h9⟩ := h
  simp only [State.memWf, State.fLowZero, ← hr, ← hb, ← hc] at h1 h2 h3 h4 h5 h6 h7 h8 h9
  exact ⟨h1, h2, h3, h4, h5, h6, h7, h8, h9⟩

theorem KeepsStore.of_same_units {s t : State} (hr : t.regs = s.regs) (hb : t.bus = s.bus)
    (hc : t.cart = s.cart) : KeepsStore s t :=
  (Keeps.refl s).store.of_units hr hb hc

theorem exec_keepsStore {i : Instr} {s t : State} (h : exec i s = .next t) : KeepsStore s t := by
  rcases exec_next_cases h with hk | ⟨-, rfl⟩ | ⟨-, rfl⟩ | ⟨-, rfl⟩ | ⟨-, rfl⟩ | ⟨-, f, rfl⟩
  · exact hk.store
  · exact .of_same_units rfl rfl rfl
  · exact .of_same_units rfl rfl rfl
  · exact .of_same_units rfl rfl rfl
  · exact (Keeps.returnTo s).store.of_units rfl rfl rfl
  · exact .of_same_units rfl rfl rfl

theorem dispatchInterrupt_keepsStore (k : IrqSource) (s : State) :
    KeepsStore s (dispatchInterrupt k s) := by
  have hcontrol : KeepsStore s { s with irq := s.irq.acknowledge k, ime := false, imeSched := false } :=
    .of_same_units rfl rfl rfl
  exact hcontrol.trans ((Keeps.push16 _ _).trans (Keeps.setPc _ _)).store

theorem step_keepsStore {s t : State} (h : step s = .next t) : KeepsStore s t := by
  obtain ⟨-, ⟨-, rfl⟩ | ⟨-, -, rfl⟩ | ⟨k, -, -, -, rfl⟩ | ⟨u, -, hu, rfl⟩⟩ := step_next_cases h
  · exact .of_same_units rfl rfl rfl
  · exact .of_same_units rfl rfl rfl
  · exact (dispatchInterrupt_keepsStore k s).of_units rfl rfl rfl
  · exact ((Keeps.fetchInstr s).store.trans (exec_keepsStore hu)).of_units (commitIme_regs _ u)
      (commitIme_bus _ u) (commitIme_cart _ u)

/-- Settles O58: `step_keepsStore`, from what each instruction and the dispatch keep. -/
theorem romAndBootNeverChange : Obligations.RomAndBootNeverChange := by
  intro s t h
  have k := step_keepsStore h
  refine ⟨k.rom, k.romLen, k.romBanks, k.ramSize, k.boot, k.bootMapped, ?_⟩
  have hkind := k.kind
  cases hs : s.cart.mapper <;> cases ht : t.cart.mapper <;> simp_all [Mapper.kind]

/-! ### The control flags -/

/-- The only writers of each control flag among the instructions (R29–R32). -/
theorem exec_control {i : Instr} {s t : State} (h : exec i s = .next t) :
    (i ≠ .di → t.ime = s.ime) ∧ (i ≠ .di → i ≠ .ei → i ≠ .reti → t.imeSched = s.imeSched) ∧
    (i ≠ .halt → (∀ x, i ≠ .stop x) → t.halted = s.halted) ∧ (¬ IsInvalid i → t.fault = s.fault) := by
  rcases exec_next_cases h with hk | ⟨hi, rfl⟩ | ⟨hi, rfl⟩ | ⟨hi, rfl⟩ | ⟨hi, rfl⟩ | ⟨hi, f, rfl⟩
  · exact ⟨fun _ => hk.ime, fun _ _ _ => hk.imeSched, fun _ _ => hk.halted, fun _ => hk.fault⟩
  · refine ⟨fun _ => rfl, fun _ _ _ => rfl, fun hhalt hstop => ?_, fun _ => rfl⟩
    obtain e | ⟨x, e⟩ := hi
    · exact absurd e hhalt
    · exact absurd e (hstop x)
  · exact ⟨fun n => absurd hi n, fun n => absurd hi n, fun _ _ => rfl, fun _ => rfl⟩
  · exact ⟨fun _ => rfl, fun _ n => absurd hi n, fun _ _ => rfl, fun _ => rfl⟩
  · have hk := Keeps.returnTo s
    exact ⟨fun _ => hk.ime, fun _ _ n => absurd hi n, fun _ _ => hk.halted, fun _ => hk.fault⟩
  · exact ⟨fun _ => rfl, fun _ _ _ => rfl, fun _ _ => rfl, fun n => absurd hi n⟩

/-- What the commit leaves: the state itself, or IME set and the schedule cleared, where the schedule stood
before the step and no fault was raised (R392). -/
theorem commitIme_cases (sched : Bool) (s : State) :
    (commitIme sched s = s ∧ (sched = true → s.imeSched = true → s.fault ≠ none)) ∨
    (commitIme sched s = { s with ime := true, imeSched := false } ∧ sched = true) := by
  rw [commitIme_eq_ite]
  split
  · rename_i hc
    exact .inr ⟨rfl, hc.1⟩
  · rename_i hc
    exact .inl ⟨rfl, fun hsched hon hfault => hc ⟨hsched, hon, hfault⟩⟩

@[simp] theorem dispatchInterrupt_halted (k : IrqSource) (s : State) :
    (dispatchInterrupt k s).halted = s.halted := by simp [dispatchInterrupt]

@[simp] theorem dispatchInterrupt_fault (k : IrqSource) (s : State) :
    (dispatchInterrupt k s).fault = s.fault := by simp [dispatchInterrupt]

@[simp] theorem dispatchInterrupt_ime (k : IrqSource) (s : State) :
    (dispatchInterrupt k s).ime = false := by simp [dispatchInterrupt]

/-- IME changes only in a dispatch, which clears it, in DI, or in the commit of a schedule (R29, R392, R419). -/
theorem step_ime_writers {s t : State} (h : step s = .next t) (hne : t.ime ≠ s.ime) :
    s.halted = false ∧
    ((s.ime = true ∧ pending s ≠ 0 ∧ t.ime = false) ∨
      (t.ime = false ∧ ∃ n, decode (fetched n s).1 = .ok (.di, [])) ∨
      (s.imeSched = true ∧ t.ime = true ∧ t.imeSched = false)) := by
  obtain ⟨-, ⟨-, rfl⟩ | ⟨-, -, rfl⟩ | ⟨k, hh, hi, hp, rfl⟩ | ⟨u, hh, hu, rfl⟩⟩ := step_next_cases h
  · exact absurd rfl hne
  · exact absurd rfl hne
  · exact ⟨hh, .inl ⟨hi, hp, dispatchInterrupt_ime k s⟩⟩
  · refine ⟨hh, .inr ?_⟩
    obtain ⟨e, -⟩ | ⟨e, hsched⟩ := commitIme_cases s.imeSched u <;> rw [e] at hne ⊢
    · have hdi : (fetchInstr s).1 = .di := by
        by_contra hdi
        exact hne (((exec_control hu).1 hdi).trans (Keeps.fetchInstr s).ime)
      obtain ⟨n, -, -, hdecode⟩ := exists_decode_fetched s
      rw [hdi] at hu hdecode
      cases (exec_di _).symm.trans hu
      exact .inl ⟨rfl, n, hdecode⟩
    · exact .inr ⟨hsched, rfl, rfl⟩

/-- Only the wake clears HALTED (R421). -/
theorem step_halted_cleared {s t : State} (h : step s = .next t) (hs : s.halted = true)
    (ht : t.halted = false) : pending s ≠ 0 := by
  obtain ⟨-, ⟨-, rfl⟩ | ⟨-, hp, -⟩ | ⟨-, hh, -⟩ | ⟨-, hh, -⟩⟩ := step_next_cases h
  · cases hs.symm.trans ht
  · exact hp
  · cases hs.symm.trans hh
  · cases hs.symm.trans hh

/-- Settles O59: the writers among the instructions (`exec_control`), and among the steps. -/
theorem controlFlagsAreWrittenOnlyBy : Obligations.ControlFlagsAreWrittenOnlyBy :=
  ⟨fun _ _ _ => exec_control,
    fun _ _ h => ⟨step_ime_writers h, step_halted_cleared h, (step_next_cases h).1⟩⟩

/-! ### The invariant -/

theorem State.inv_iff (s : State) :
    s.Inv = true ↔ s.memWf = true ∧ s.fLowZero = true ∧ s.haltedSettled = true ∧ s.faultReported = true := by
  simp only [State.Inv, Bool.and_eq_true, and_assoc]

theorem State.haltedSettled_iff (s : State) :
    s.haltedSettled = true ↔ (s.halted = true → s.imeSched = false) := by
  cases hh : s.halted <;> cases hi : s.imeSched <;> simp [State.haltedSettled, hh, hi]

theorem State.faultReported_iff (s : State) :
    s.faultReported = true ↔ ∀ f, s.fault = some f → s.report = some (.stopped f) := by
  cases hf : s.fault <;> simp [State.faultReported, hf]

/-- An instruction that runs in a machine that is not stopped reports the fault it raises, if any. -/
theorem exec_faultReported {i : Instr} {s t : State} (h : exec i s = .next t) (hs : s.fault = none) :
    t.faultReported = true := by
  rw [State.faultReported_iff]
  intro f hf
  rcases exec_next_cases h with hk | ⟨-, rfl⟩ | ⟨-, rfl⟩ | ⟨-, rfl⟩ | ⟨-, rfl⟩ | ⟨-, g, rfl⟩
  · cases (hk.fault.trans hs).symm.trans hf
  · cases hs.symm.trans hf
  · cases hs.symm.trans hf
  · cases hs.symm.trans hf
  · cases ((Keeps.returnTo s).fault.trans hs).symm.trans hf
  · cases hf
    rfl

/-- Only HALT and STOP halt a running machine; they leave the schedule and raise no fault. -/
theorem exec_halts {i : Instr} {s t : State} (h : exec i s = .next t) (hs : s.halted = false)
    (ht : t.halted = true) : t.imeSched = s.imeSched ∧ t.fault = s.fault := by
  rcases exec_next_cases h with hk | ⟨-, rfl⟩ | ⟨-, rfl⟩ | ⟨-, rfl⟩ | ⟨-, rfl⟩ | ⟨-, g, rfl⟩
  · cases (hk.halted.trans hs).symm.trans ht
  · exact ⟨rfl, rfl⟩
  · cases hs.symm.trans ht
  · cases hs.symm.trans ht
  · cases ((Keeps.returnTo s).halted.trans hs).symm.trans ht
  · cases hs.symm.trans ht

/-- After the commit of a step that began Running, HALTED leaves no schedule: a schedule that stood before the
instruction is committed with it (R392). -/
theorem commitIme_haltedSettled {i : Instr} {s t : State} (h : exec i s = .next t) (hh : s.halted = false)
    (hf : s.fault = none) : (commitIme s.imeSched t).haltedSettled = true := by
  rw [State.haltedSettled_iff, commitIme_halted]
  intro ht
  obtain ⟨hsched, hfault⟩ := exec_halts h hh ht
  obtain ⟨e, hno⟩ | ⟨e, -⟩ := commitIme_cases s.imeSched t <;> rw [e]
  · refine Bool.eq_false_iff.mpr fun hon => ?_
    exact hno (hsched.symm.trans hon) hon (hfault.trans hf)

theorem commitIme_faultReported {s : State} (sched : Bool) (h : s.faultReported = true) :
    (commitIme sched s).faultReported = true := by
  rw [State.faultReported_iff] at h ⊢
  rwa [commitIme_fault, commitIme_report]

/-- HALTED implies no schedule, after every step. -/
theorem step_haltedSettled {s t : State} (hs : s.haltedSettled = true) (h : step s = .next t) :
    t.haltedSettled = true := by
  obtain ⟨hf, ⟨-, rfl⟩ | ⟨-, -, rfl⟩ | ⟨k, hh, -, -, rfl⟩ | ⟨u, hh, hu, rfl⟩⟩ := step_next_cases h
  · exact hs
  · rfl
  · rw [State.haltedSettled_iff]
    exact fun ht => absurd (((dispatchInterrupt_halted k s).trans hh).symm.trans ht) Bool.false_ne_true
  · have k := Keeps.fetchInstr s
    rw [← k.imeSched]
    exact commitIme_haltedSettled hu (k.halted.trans hh) (k.fault.trans hf)

/-- After every step FAULT is what the step reported. -/
theorem step_faultReported {s t : State} (h : step s = .next t) : t.faultReported = true := by
  obtain ⟨hf, ⟨-, rfl⟩ | ⟨-, -, rfl⟩ | ⟨k, -, -, -, rfl⟩ | ⟨u, -, hu, rfl⟩⟩ := step_next_cases h
  · simp [State.faultReported, hf]
  · simp [State.faultReported, hf]
  · simp [State.faultReported, hf]
  · exact commitIme_faultReported _ (exec_faultReported hu ((Keeps.fetchInstr s).fault.trans hf))

/-- Settles O54: the memories and F by `step_keepsStore`, the control flags by the cases of the step. -/
theorem stepKeepsInvariant : Obligations.StepKeepsInvariant := by
  intro s t hs h
  rw [State.inv_iff] at hs ⊢
  obtain ⟨hmem, hflags, hhalted, -⟩ := hs
  have k := step_keepsStore h
  exact ⟨k.memWf hmem, k.fLowZero hflags, step_haltedSettled hhalted h, step_faultReported h⟩

end Sys2Proof.Machine
end

section
/-!
PROOFS, the bus by target. What a read and a store do at each target, and which addresses reach it: the rows of
the memory map (O10), plain RAM (O9), the stores no memory keeps (O13), the boot overlay (O15) and Peek (O17).
-/

namespace Sys2Proof.Machine

open Sys2Proof.Statements

/-! ### The rows of the memory map -/

/-- The decoder gives an address a row exactly when the address lies in the row's range (R62). -/
theorem region_eq_iff (a : Word) (r : Region) : region a = r ↔ r.holds a.toNat :=
  ⟨fun h => h ▸ region_holds a, region_eq⟩

/-- Settles O10: the ranges of `Region.holds` are those of R62. -/
theorem addressMapIsTotal : Obligations.AddressMapIsTotal := by
  intro a
  simp only [region_eq_iff, Region.holds]
  refine ⟨?_, ?_, ?_, ?_, ?_, ?_, ?_, ?_, ?_, ?_, ?_, ?_, ?_⟩ <;> bv_omega

/-! ### The target of an address in a known row -/

theorem target_of_vram {a : Word} (s : State) (lo : 0x8000 ≤ a.toNat) (hi : a.toNat < 0xA000) :
    target a s = .cell (.vram (a.toNat - 0x8000)) := by
  rw [target, region_eq (r := .vram) ⟨lo, hi⟩]

theorem target_of_cartRam {a : Word} (s : State) (lo : 0xA000 ≤ a.toNat) (hi : a.toNat < 0xC000) :
    target a s = cartRamTarget (s.cart.ramTarget a) := by
  rw [target, region_eq (r := .cartRam) ⟨lo, hi⟩]

theorem target_of_wram {a : Word} (s : State) (lo : 0xC000 ≤ a.toNat) (hi : a.toNat < 0xE000) :
    target a s = .cell (.wram (a.toNat - 0xC000)) := by
  rw [target, region_eq (r := .wram) ⟨lo, hi⟩]

theorem target_of_echo {a : Word} (s : State) (lo : 0xE000 ≤ a.toNat) (hi : a.toNat < 0xFE00) :
    target a s = .cell (.wram (a.toNat - 0xE000)) := by
  rw [target, region_eq (r := .echo) ⟨lo, hi⟩]

theorem target_of_oam {a : Word} (s : State) (lo : 0xFE00 ≤ a.toNat) (hi : a.toNat < 0xFEA0) :
    target a s = .cell (.oam (a.toNat - 0xFE00)) := by
  rw [target, region_eq (r := .oam) ⟨lo, hi⟩]

theorem target_of_unusable {a : Word} (s : State) (lo : 0xFEA0 ≤ a.toNat) (hi : a.toNat < 0xFF00) :
    target a s = .unusable := by
  rw [target, region_eq (r := .unusable) ⟨lo, hi⟩]

theorem target_of_hram {a : Word} (s : State) (lo : 0xFF80 ≤ a.toNat) (hi : a.toNat < 0xFFFF) :
    target a s = .cell (.hram (a.toNat - 0xFF80)) := by
  rw [target, region_eq (r := .hram) ⟨lo, hi⟩]

theorem target_of_boot {a : Word} {s : State} (hi : a.toNat < 0x0100) (hb : s.bus.bootMapped = true) :
    target a s = .boot := by
  rw [target, region_eq (r := .lowRom) hi]
  exact if_pos hb

theorem target_of_lowRom {a : Word} {s : State} (hi : a.toNat < 0x0100) (hb : s.bus.bootMapped = false) :
    target a s = .lowRom := by
  rw [target, region_eq (r := .lowRom) hi]
  exact if_neg (Bool.eq_false_iff.mp hb)

/-! ### What a read and a store do at each target -/

section
variable {a : Word} {s : State} (v : Byte)

theorem memRead_of_boot (h : target a s = .boot) :
    memRead a s = (Memory.read 0x00 s.bus.boot a.toNat, s) := by
  simp only [memRead, readValue, busValue, afterRead, h]

theorem memRead_of_lowRom (h : target a s = .lowRom) : memRead a s = (s.cart.readRom a, s) := by
  simp only [memRead, readValue, busValue, afterRead, h]

theorem memRead_of_rom (h : target a s = .rom) : memRead a s = (s.cart.readRom a, s) := by
  simp only [memRead, readValue, busValue, afterRead, h]

theorem memRead_of_cell {c : CellId} (h : target a s = .cell c) : memRead a s = (readCell c s, s) := by
  simp only [memRead, readValue, busValue, afterRead, h]

theorem memRead_of_absent (h : target a s = .absent) : memRead a s = (0xFF, s) := by
  simp only [memRead, readValue, busValue, afterRead, h]

theorem memRead_of_unusable (h : target a s = .unusable) : memRead a s = (Config.unusableSentinel, s) := by
  simp only [memRead, readValue, busValue, afterRead, h]

theorem memWrite_of_boot (h : target a s = .boot) : memWrite a v s = s := by
  rw [memWrite, h]

theorem memWrite_of_lowRom (h : target a s = .lowRom) : memWrite a v s = s := by
  rw [memWrite, h]

theorem memWrite_of_rom (h : target a s = .rom) : memWrite a v s = writeRom a v s := by
  rw [memWrite, h]

theorem memWrite_of_cell {c : CellId} (h : target a s = .cell c) : memWrite a v s = writeCell c v s := by
  rw [memWrite, h]

theorem memWrite_of_absent (h : target a s = .absent) : memWrite a v s = s := by
  rw [memWrite, h]

theorem memWrite_of_unusable (h : target a s = .unusable) : memWrite a v s = s := by
  rw [memWrite, h]

/-- A store to ROM whose mapper it neither changes nor tells anything has no effect (R111, R126, R141). -/
theorem writeRom_eq_self (hm : s.cart.mapper.writeRom a v = s.cart.mapper)
    (he : s.cart.mapper.writeRomEvents a v = []) : writeRom a v s = s := by
  rw [writeRom, hm, he, List.nil_append]

theorem writeRom_of_noMapper (h : s.cart.mapper = .noMapper) : writeRom a v s = s :=
  writeRom_eq_self v (by rw [h]; rfl) (by rw [h]; rfl)

/-- A store below 0x0100 is discarded, whatever is shown there (R64). -/
theorem memWrite_below_0100 (hi : a.toNat < 0x0100) : memWrite a v s = s := by
  cases hb : s.bus.bootMapped with
  | true => exact memWrite_of_boot v (target_of_boot hi hb)
  | false => exact memWrite_of_lowRom v (target_of_lowRom hi hb)

end

/-- Settles O13: what a store does at each of the three targets. -/
theorem romAndUnusableStores : Obligations.RomAndUnusableStores := by
  intro a v s
  refine ⟨memWrite_below_0100 v, fun lo hi => ?_, fun lo hi => ?_⟩
  · have h := target_of_unusable s lo hi
    exact ⟨memWrite_of_unusable v h, memRead_of_unusable h⟩
  · have h := target_of_rom s lo hi
    exact ⟨memRead_of_rom h, ⟨_, _, memWrite_of_rom v h⟩,
      fun hm => (memWrite_of_rom v h).trans (writeRom_of_noMapper v hm)⟩

/-! ### The boot overlay -/

theorem memWrite_FF50 (v : Byte) (s : State) :
    memWrite 0xFF50 v s = logEvent (.regWr 0xFF50 v)
      (if v = 0x00 then s else { s with bus := { s.bus with bootMapped := false } }) := rfl

/-- Settles O15: the two targets below 0x0100, the store at 0xFF50, and `Keeps.memWrite`. -/
theorem bootRomUnmap : Obligations.BootRomUnmap := by
  intro a v s
  refine ⟨fun hi hb => memRead_of_boot (target_of_boot hi hb),
    fun hi hb => memRead_of_lowRom (target_of_lowRom hi hb), rfl, rfl, rfl, fun hv => ?_,
    (Keeps.memWrite s a v).bootMapped⟩
  rw [memWrite_FF50, if_neg hv]
  rfl

/-! ### Peek -/

/-- What the environment would give an unmodelled I/O address matters at no other target. -/
theorem busValue_io_irrelevant {a : Word} {s : State} (io io' clock : Byte) (h : target a s ≠ .io) :
    busValue io clock a s = busValue io' clock a s := by
  unfold busValue
  split
  case h_8 e => exact absurd e h
  all_goals rfl

theorem peek_of_io {a : Word} {s : State} (u : Byte) (h : target a s = .io) : peek u a s = u := by
  simp only [peek, busValue, h]

theorem peek_eq_readValue {a : Word} {s : State} (u : Byte) (h : target a s ≠ .io) :
    peek u a s = readValue a s :=
  busValue_io_irrelevant _ _ _ h

/-- Only the addresses of R72 reach the I/O stub. -/
theorem target_eq_io_iff (a : Word) (s : State) :
    target a s = .io ↔ 0xFF00 ≤ a.toNat ∧ a.toNat < 0xFF80 ∧ a ≠ 0xFF0F ∧ a ≠ 0xFF50 := by
  refine ⟨fun h => ?_, fun ⟨lo, hi, hif, hunmap⟩ => target_of_io s lo hi hif hunmap⟩
  have hr := target_holds a s
  rw [h] at hr
  obtain ⟨lo, hi, hif, hunmap⟩ := hr
  exact ⟨lo, hi, fun e => hif (congrArg BitVec.toNat e), fun e => hunmap (congrArg BitVec.toNat e)⟩

theorem sameButRecord_afterRead (a : Word) (s : State) : SameButRecord s (afterRead a s) := by
  rw [afterRead_eq_recorded]
  rfl

/-- Settles O17: Peek reads as a CPU does except at the target `.io`. -/
theorem peekGivesWhatAReadGives : Obligations.PeekGivesWhatAReadGives := by
  intro u a s
  rw [← target_eq_io_iff a s]
  refine ⟨peek_of_io u, fun hio => ⟨peek_eq_readValue u hio, sameButRecord_afterRead a s⟩,
    fun ha hclock => ?_⟩
  have hio : target a s ≠ .io := fun h => by
    obtain ⟨lo, hi, -⟩ := (target_eq_io_iff a s).mp h
    omega
  rw [memRead, afterRead_eq_self ha hclock, peek_eq_readValue u hio]

/-! ### Plain RAM -/

/-- The address reaches this cell of a RAM array of the bus, in every state. -/
def ReachesBusCell (a : Word) (c : CellId) : Prop := (∀ i, c ≠ .cartRam i) ∧ ∀ s, target a s = .cell c

theorem plainRam_reachesBusCell {a : Word} (h : PlainRam a) : ∃ c, ReachesBusCell a c := by
  have hcases : (0x8000 ≤ a.toNat ∧ a.toNat < 0xA000) ∨ (0xC000 ≤ a.toNat ∧ a.toNat < 0xE000) ∨
      (0xE000 ≤ a.toNat ∧ a.toNat < 0xFE00) ∨ (0xFE00 ≤ a.toNat ∧ a.toNat < 0xFEA0) ∨
      (0xFF80 ≤ a.toNat ∧ a.toNat < 0xFFFF) := by
    unfold PlainRam at h
    omega
  rcases hcases with ⟨lo, hi⟩ | ⟨lo, hi⟩ | ⟨lo, hi⟩ | ⟨lo, hi⟩ | ⟨lo, hi⟩
  · exact ⟨.vram _, nofun, fun s => target_of_vram s lo hi⟩
  · exact ⟨.wram _, nofun, fun s => target_of_wram s lo hi⟩
  · exact ⟨.wram _, nofun, fun s => target_of_echo s lo hi⟩
  · exact ⟨.oam _, nofun, fun s => target_of_oam s lo hi⟩
  · exact ⟨.hram _, nofun, fun s => target_of_hram s lo hi⟩

theorem readCell_writeCell_self {c : CellId} {s : State} (v : Byte) (hc : ∀ i, c ≠ .cartRam i)
    (h : s.memWf = true) : readCell c (writeCell c v s) = v := by
  have hb := ((State.memWf_iff s).mp h).1
  simp only [Bus.wf, Bool.and_eq_true] at hb
  obtain ⟨⟨⟨⟨⟨⟨⟨⟨⟨hvram, -⟩, hwram⟩, -⟩, hoam⟩, -⟩, hhram⟩, -⟩, -⟩, -⟩ := hb
  cases c with
  | vram i => exact (Memory.read_write _ i i v hvram).trans (if_pos rfl)
  | wram i => exact (Memory.read_write _ i i v hwram).trans (if_pos rfl)
  | oam i => exact (Memory.read_write _ i i v hoam).trans (if_pos rfl)
  | hram i => exact (Memory.read_write _ i i v hhram).trans (if_pos rfl)
  | cartRam i => exact absurd rfl (hc i)

theorem readValue_of_cell {a : Word} {s : State} {c : CellId} (h : target a s = .cell c) :
    readValue a s = readCell c s :=
  congrArg Prod.fst (memRead_of_cell h)

/-- A read after a store gives the byte stored, at any address that reaches the same cell. -/
theorem readValue_memWrite_same {a b : Word} {c : CellId} {s : State} (v : Byte) (h : s.memWf = true)
    (ha : ReachesBusCell a c) (hb : ReachesBusCell b c) : readValue b (memWrite a v s) = v := by
  rw [memWrite_of_cell v (ha.2 s), readValue_of_cell (hb.2 _), readCell_writeCell_self v hb.1 h]

/-- An address of WRAM and its echo reach the same cell (R69). -/
theorem wram_and_echo_reach {a : Word} (lo : 0xC000 ≤ a.toNat) (hi : a.toNat < 0xDE00) :
    ReachesBusCell a (.wram (a.toNat - 0xC000)) ∧
      ReachesBusCell (a + 0x2000) (.wram (a.toNat - 0xC000)) := by
  have he : (a + 0x2000).toNat = a.toNat + 0x2000 := by bv_omega
  refine ⟨⟨nofun, fun s => target_of_wram s lo (by omega)⟩, nofun, fun s => ?_⟩
  rw [target_of_echo s (by omega) (by omega), he]
  exact congrArg (fun i => Target.cell (.wram i)) (by omega)

/-- Settles O9: the cell of each range, and `readValue_memWrite_same`. -/
theorem plainRamAccess : Obligations.PlainRamAccess := by
  intro a v s
  refine ⟨fun lo hi => ?_, fun lo hi => ?_, fun lo hi => ?_, fun lo hi => ?_, fun lo hi => ?_,
    fun h hp => ?_, fun h lo hi => ?_⟩
  · have ht := target_of_vram s lo hi
    exact ⟨memRead_of_cell ht, memWrite_of_cell v ht⟩
  · have ht := target_of_wram s lo hi
    exact ⟨memRead_of_cell ht, memWrite_of_cell v ht⟩
  · have ht := target_of_echo s lo hi
    exact ⟨memRead_of_cell ht, memWrite_of_cell v ht⟩
  · have ht := target_of_oam s lo hi
    exact ⟨memRead_of_cell ht, memWrite_of_cell v ht⟩
  · have ht := target_of_hram s lo hi
    exact ⟨memRead_of_cell ht, memWrite_of_cell v ht⟩
  · obtain ⟨c, hc⟩ := plainRam_reachesBusCell hp
    exact readValue_memWrite_same v h hc hc
  · obtain ⟨ha, he⟩ := wram_and_echo_reach lo hi
    exact ⟨readValue_memWrite_same v h ha he, readValue_memWrite_same v h he ha⟩

end Sys2Proof.Machine
end

section
/-!
PROOFS, the interrupt registers (O14): what an access to 0xFF0F and to 0xFFFF gives, and the bits that the
operations of the controller set and clear.
-/

namespace Sys2Proof.Machine

open Sys2Proof.Statements

theorem ifByte_eq_or (ifr : BitVec 5) : ifByte ifr = 0xE0 ||| ifr.setWidth 8 := by
  revert ifr
  decide

theorem memRead_FF0F (s : State) :
    memRead 0xFF0F s = (ifByte s.irq.ifr, recorded (readEvents 0xFF0F s) s) := rfl

theorem memWrite_FF0F (v : Byte) (s : State) :
    memWrite 0xFF0F v s = recorded [.regWr 0xFF0F v] { s with irq := { s.irq with ifr := v.setWidth 5 } } := rfl

theorem IrqSource.vector_toNat (k : IrqSource) : k.vector.toNat = 0x0040 + 8 * k.index := by
  cases k <;> rfl

theorem IrqSource.index_lt (k : IrqSource) : k.index < 5 := by
  cases k <;> decide

/-- The mask of a source has the bit of its index alone (R414). -/
theorem IrqSource.getLsbD_mask (k : IrqSource) (j : Nat) : k.mask.getLsbD j = decide (j = k.index) := by
  rw [IrqSource.mask, BitVec.getLsbD_twoPow]
  by_cases hj : j = k.index
  · simp [hj, k.index_lt]
  · simp [hj, Ne.symm hj]

theorem IrqSource.getLsbD_mask_byte (k : IrqSource) (j : Nat) :
    (k.mask.setWidth 8).getLsbD j = decide (j = k.index) := by
  rw [BitVec.getLsbD_setWidth, k.getLsbD_mask]
  by_cases hj : j = k.index
  · have := k.index_lt
    simp only [hj, decide_true, Bool.and_true, decide_eq_true_eq]
    omega
  · simp [hj]

/-- Or with a mask that has bit `i` alone sets that bit. -/
theorem getLsbD_or_mask {n i : Nat} (x m : BitVec n) (j : Nat) (hm : ∀ j, m.getLsbD j = decide (j = i)) :
    (x ||| m).getLsbD j = (decide (j = i) || x.getLsbD j) := by
  rw [BitVec.getLsbD_or, hm, Bool.or_comm]

/-- And with the complement of a mask that has bit `i` alone clears that bit. -/
theorem getLsbD_and_not_mask {n i : Nat} (x m : BitVec n) (j : Nat)
    (hm : ∀ j, m.getLsbD j = decide (j = i)) :
    (x &&& ~~~ m).getLsbD j = (decide (j ≠ i) && x.getLsbD j) := by
  rw [BitVec.getLsbD_and, BitVec.getLsbD_not, hm, Bool.and_comm]
  by_cases hj : j < n
  · simp [hj]
  · simp [BitVec.getLsbD_of_ge x j (by omega)]

theorem getLsbD_pending (s : State) (j : Nat) :
    (pending s).getLsbD j = (s.irq.ie.getLsbD j && s.irq.ifr.getLsbD j) := by
  rw [pending, BitVec.getLsbD_and, BitVec.getLsbD_setWidth]
  by_cases hj : j < 5
  · simp [hj]
  · simp [BitVec.getLsbD_of_ge s.irq.ifr j (by omega)]

/-- Settles O14: the two registers by their targets, the controller operations by the bit of a source's mask. -/
theorem interruptRegisters : Obligations.InterruptRegisters := by
  intro s v c k j
  refine ⟨?_, ?_, ?_, rfl, rfl, rfl, k.vector_toNat, rfl, ?_, rfl, ?_, rfl, ?_, rfl, ?_, rfl, rfl,
    getLsbD_pending s j⟩
  · rw [memRead_FF0F, ifByte_eq_or]
  · rw [memRead_FF0F]
    rfl
  · rw [memWrite_FF0F, ← BitVec.ofNat_toNat]
    rfl
  · exact getLsbD_or_mask _ _ j k.getLsbD_mask_byte
  · exact getLsbD_and_not_mask _ _ j k.getLsbD_mask_byte
  · exact getLsbD_or_mask _ _ j k.getLsbD_mask
  · exact getLsbD_and_not_mask _ _ j k.getLsbD_mask

end Sys2Proof.Machine
end

section
/-!
PROOFS, the cartridges. The ROM windows, the stores to the mapper registers and the two ways an access to
cartridge RAM ends are said once for every mapper; O18 to O22 instantiate them.
-/

namespace Sys2Proof.Machine

open Sys2Proof.Statements

/-! ### The ROM windows and the register stores -/

section
variable {a : Word} {s : State} (v : Byte)

theorem readRom_low (hi : a.toNat < 0x4000) : s.cart.readRom a = romAt s s.cart.mapper.lowBank a.toNat := by
  rw [Cartridge.readRom, Cartridge.bankAt, if_pos hi, Nat.mod_eq_of_lt hi]
  rfl

theorem readRom_high (lo : 0x4000 ≤ a.toNat) (hi : a.toNat < 0x8000) :
    s.cart.readRom a = romAt s s.cart.mapper.highBank (a.toNat - 0x4000) := by
  rw [Cartridge.readRom, Cartridge.bankAt, if_neg (by omega),
    show a.toNat % 0x4000 = a.toNat - 0x4000 by omega]
  rfl

/-- A store to ROM replaces the mapper registers, and adds to the record (R65). -/
theorem memWrite_sets_mapper {m : Mapper} (lo : 0x0100 ≤ a.toNat) (hi : a.toNat < 0x8000)
    (hm : s.cart.mapper.writeRom a v = m) : SameButRecord (withMapper m s) (memWrite a v s) := by
  rw [memWrite_of_rom v (target_of_rom s lo hi), writeRom, hm]
  rfl

/-- A store to ROM that selects no mapper register has no effect (R126, R141). -/
theorem memWrite_selects_nothing (lo : 0x0100 ≤ a.toNat) (hi : a.toNat < 0x8000)
    (hm : s.cart.mapper.writeRom a v = s.cart.mapper) (he : s.cart.mapper.writeRomEvents a v = []) :
    memWrite a v s = s :=
  (memWrite_of_rom v (target_of_rom s lo hi)).trans (writeRom_eq_self v hm he)

/-! ### Cartridge RAM -/

theorem absentRam_access (lo : 0xA000 ≤ a.toNat) (hi : a.toNat < 0xC000)
    (h : s.cart.ramTarget a = .absent) : memRead a s = (0xFF, s) ∧ memWrite a v s = s := by
  have ht : target a s = .absent := by rw [target_of_cartRam s lo hi, h]; rfl
  exact ⟨memRead_of_absent ht, memWrite_of_absent v ht⟩

theorem ramCell_access {i : Nat} (lo : 0xA000 ≤ a.toNat) (hi : a.toNat < 0xC000)
    (h : s.cart.ramTarget a = .cell i) :
    memRead a s = (s.cart.readRamCell i, s) ∧ memWrite a v s = { s with cart := s.cart.writeRamCell i v } := by
  have ht : target a s = .cell (.cartRam i) := by rw [target_of_cartRam s lo hi, h]; rfl
  exact ⟨memRead_of_cell ht, memWrite_of_cell v ht⟩

theorem clock_access {sel : BitVec 4} (lo : 0xA000 ≤ a.toNat) (hi : a.toNat < 0xC000)
    (h : s.cart.ramTarget a = .clock sel) :
    memRead a s = (Config.rtcRead sel s.bus.events,
      recorded [.rtcRd sel (Config.rtcRead sel s.bus.events)] s) ∧
    memWrite a v s = recorded [.rtcWrite sel v] s := by
  have ht : target a s = .clock sel := by rw [target_of_cartRam s lo hi, h]; rfl
  exact ⟨memRead_of_clock ht, memWrite_of_clock v ht⟩

theorem Cartridge.readRamCell_of_bytes {c : Cartridge} (hm : ∀ r, c.mapper ≠ .mbc2 r) (i : Nat) :
    c.readRamCell i = Memory.read 0x00 c.ram i := by
  unfold Cartridge.readRamCell
  split
  · rename_i r e
    exact absurd e (hm r)
  · rfl

theorem Cartridge.writeRamCell_of_bytes {c : Cartridge} (hm : ∀ r, c.mapper ≠ .mbc2 r) (i : Nat) :
    c.writeRamCell i v = { c with ram := Memory.write 0x00 c.ram i v } := by
  unfold Cartridge.writeRamCell
  split
  · rename_i r e
    exact absurd e (hm r)
  · rfl

/-- External RAM that is disabled or absent reads 0xFF and takes no store (R122, R123, R136, R137, R145). -/
theorem externalRam_absent {en : Bool} {bank : Nat} (lo : 0xA000 ≤ a.toNat) (hi : a.toNat < 0xC000)
    (ht : s.cart.ramTarget a = s.cart.externalRam en bank a) (h : en = false ∨ s.cart.ramSize = 0) :
    memRead a s = (0xFF, s) ∧ memWrite a v s = s := by
  refine absentRam_access v lo hi (ht.trans (if_neg ?_))
  rcases h with h | h <;> simp [h]

/-- External RAM that is enabled and present is a byte array, reached at `RamIndex` (R102, R122, R123, R136,
R137, R145). -/
theorem externalRam_present {en : Bool} {bank : Nat} (lo : 0xA000 ≤ a.toNat) (hi : a.toNat < 0xC000)
    (hm : ∀ r, s.cart.mapper ≠ .mbc2 r) (ht : s.cart.ramTarget a = s.cart.externalRam en bank a)
    (hen : en = true) (hsize : s.cart.ramSize ≠ 0) :
    memRead a s = (Memory.read 0x00 s.cart.ram (ramAt s bank a), s) ∧
      memWrite a v s = withRam (ramAt s bank a) v s := by
  have hcell : s.cart.ramTarget a = .cell (ramAt s bank a) := ht.trans (if_pos (by simp [hen, hsize]))
  obtain ⟨hread, hwrite⟩ := ramCell_access v lo hi hcell
  rw [Cartridge.readRamCell_of_bytes hm] at hread
  rw [Cartridge.writeRamCell_of_bytes v hm] at hwrite
  exact ⟨hread, hwrite⟩

end

/-! ### No mapper -/

/-- With at least two banks, bank 1 shows the image from 0x4000 on (R101). -/
theorem romAt_one {s : State} {n : Nat} (hb : 2 ≤ s.cart.romBanks) (lo : 0x4000 ≤ n) :
    romAt s 1 (n - 0x4000) = if n < s.cart.romLen then Memory.read 0x00 s.cart.rom n else 0xFF := by
  rw [romAt, Nat.mod_eq_of_lt (by omega), show 1 * 0x4000 + (n - 0x4000) = n by omega]

/-- With at least two banks, the two windows of a cartridge without a mapper show the image itself (R110). -/
theorem readRom_of_noMapper {a : Word} {s : State} (hm : s.cart.mapper = .noMapper)
    (hb : 2 ≤ s.cart.romBanks) (ha : a.toNat < 0x8000) :
    s.cart.readRom a =
      if a.toNat < s.cart.romLen then Memory.read 0x00 s.cart.rom a.toNat else 0xFF := by
  by_cases hi : a.toNat < 0x4000
  · rw [readRom_low hi, hm, romAt, Mapper.lowBank, Nat.zero_mod, Nat.zero_mul, Nat.zero_add]
  · rw [readRom_high (by omega) ha, hm, Mapper.highBank, romAt_one hb (by omega)]

theorem ramTarget_of_noMapper {c : Cartridge} (a : Word) (hm : c.mapper = .noMapper) :
    c.ramTarget a = .absent := by
  rw [Cartridge.ramTarget, hm]

/-- Settles O18: both windows show the image, and neither ROM nor RAM takes a store. -/
theorem noMapperCartridge : Obligations.NoMapperCartridge := by
  intro a v s hm hb
  exact ⟨readRom_of_noMapper hm hb,
    fun lo hi => (memWrite_of_rom v (target_of_rom s lo hi)).trans (writeRom_of_noMapper v hm),
    fun lo hi => absentRam_access v lo hi (ramTarget_of_noMapper a hm)⟩

/-! ### The values that the registers take -/

theorem lowNibbleIsA_eq (v : Byte) : lowNibbleIsA v = decide (v.toNat % 16 = 0x0A) := by
  revert v
  decide

/-- A bank register that is never zero takes the low bits of the byte, or 1 (R116, R126, R133). -/
theorem nonzeroBank_eq (n : Nat) (v : Byte) :
    (if v.setWidth n = 0 then 1 else v.setWidth n) =
      if v.toNat % 2 ^ n = 0 then 1 else BitVec.ofNat n v.toNat := by
  have hz : v.setWidth n = 0 ↔ v.toNat % 2 ^ n = 0 := by
    rw [← BitVec.toNat_inj, BitVec.toNat_setWidth]
    simp
  simp only [hz, BitVec.ofNat_toNat]

/-! ### MBC1 -/

section
variable {a : Word} {r : Mbc1} (v : Byte)

theorem Mbc1.write_ramg (hi : a.toNat < 0x2000) :
    r.write a v = { r with ramg := decide (v.toNat % 16 = 0x0A) } := by
  rw [Mbc1.write, if_pos hi, lowNibbleIsA_eq]

theorem Mbc1.write_bank1 (lo : 0x2000 ≤ a.toNat) (hi : a.toNat < 0x4000) :
    r.write a v = { r with bank1 := if v.toNat % 32 = 0 then 1 else BitVec.ofNat 5 v.toNat } := by
  rw [Mbc1.write, if_neg (by omega), if_pos hi, nonzeroBank_eq]
  rfl

theorem Mbc1.write_bank2 (lo : 0x4000 ≤ a.toNat) (hi : a.toNat < 0x6000) :
    r.write a v = { r with bank2 := BitVec.ofNat 2 v.toNat } := by
  rw [Mbc1.write, if_neg (by omega), if_neg (by omega), if_pos hi, BitVec.ofNat_toNat]

theorem Mbc1.write_mode (lo : 0x6000 ≤ a.toNat) :
    r.write a v = { r with mode := decide (v.toNat % 2 = 1) } := by
  rw [Mbc1.write, if_neg (by omega), if_neg (by omega), if_neg (by omega)]
  simp [BitVec.getLsbD, Nat.testBit_zero]

/-- `(BANK2 << 5) | x` of a five-bit `x` (R117, R118). -/
theorem bank2_append_toNat (b : BitVec 2) (x : BitVec 5) : (b ++ x).toNat = 32 * b.toNat + x.toNat := by
  rw [BitVec.toNat_append, ← Nat.shiftLeft_add_eq_or_of_lt x.isLt, Nat.shiftLeft_eq]
  omega

theorem Mbc1.lowBank_eq : (Mapper.mbc1 r).lowBank = if r.mode then 32 * r.bank2.toNat else 0 := by
  rw [Mapper.lowBank, bank2_append_toNat]
  rfl

end

/-- Settles O19: the register stores by `Mbc1.write`, the windows by the bank they show, RAM by
`externalRam`. -/
theorem mbc1Cartridge : Obligations.Mbc1Cartridge := by
  intro a v r s hm
  have hwrite : s.cart.mapper.writeRom a v = .mbc1 (r.write a v) := by rw [hm]; rfl
  have hram : s.cart.ramTarget a = s.cart.externalRam r.ramg (if r.mode then r.bank2.toNat else 0) a := by
    rw [Cartridge.ramTarget, hm]
  refine ⟨fun lo hi => ?_, fun lo hi => ?_, fun lo hi => ?_, fun lo hi => ?_, fun hi => ?_,
    fun lo hi => ?_, fun hb => ?_, fun lo hi h => externalRam_absent v lo hi hram h,
    fun lo hi hen hsize => externalRam_present v lo hi (by rw [hm]; nofun) hram hen hsize⟩
  · rw [Mbc1.write_ramg v hi] at hwrite
    exact memWrite_sets_mapper v lo (by omega) hwrite
  · rw [Mbc1.write_bank1 v lo hi] at hwrite
    exact memWrite_sets_mapper v (by omega) (by omega) hwrite
  · rw [Mbc1.write_bank2 v lo hi] at hwrite
    exact memWrite_sets_mapper v (by omega) (by omega) hwrite
  · rw [Mbc1.write_mode v lo] at hwrite
    exact memWrite_sets_mapper v (by omega) hi hwrite
  · rw [readRom_low hi, hm, Mbc1.lowBank_eq]
  · rw [readRom_high lo hi, hm, Mapper.highBank, bank2_append_toNat]
  · have hne : r.bank1.toNat ≠ 0 := fun e => hb (BitVec.eq_of_toNat_eq e)
    have hlt := r.bank1.isLt
    omega

/-! ### MBC2 -/

section
variable {a : Word} {r : Mbc2} (v : Byte)

theorem getLsbD_8_eq (a : Word) : a.getLsbD 8 = decide (a.toNat / 256 % 2 = 1) := by
  rw [BitVec.getLsbD, Nat.testBit_eq_decide_div_mod_eq]

theorem Mbc2.write_ramg (hi : a.toNat < 0x4000) (hbit : a.toNat / 256 % 2 = 0) :
    r.write a v = { r with ramg := decide (v.toNat % 16 = 0x0A) } := by
  rw [Mbc2.write, if_pos hi, getLsbD_8_eq, if_neg (by simp [hbit]), lowNibbleIsA_eq]

theorem Mbc2.write_romb (hi : a.toNat < 0x4000) (hbit : a.toNat / 256 % 2 = 1) :
    r.write a v = { r with romb := if v.toNat % 16 = 0 then 1 else BitVec.ofNat 4 v.toNat } := by
  rw [Mbc2.write, if_pos hi, getLsbD_8_eq, if_pos (by simp [hbit]), nonzeroBank_eq]
  rfl

theorem Mbc2.write_nothing (lo : 0x4000 ≤ a.toNat) : r.write a v = r := by
  rw [Mbc2.write, if_neg (by omega)]

/-- A cell of an MBC2 reads with its upper four bits 1 (R127). -/
theorem or_F0_and_0F (x : Byte) : 0xF0 ||| (x &&& 0x0F) = 0xF0 ||| x := by
  revert x
  decide

theorem and_0F_eq (v : Byte) : v &&& 0x0F = BitVec.ofNat 8 (v.toNat % 16) := by
  revert v
  decide

theorem Mbc2.readRamCell_eq {c : Cartridge} (hm : c.mapper = .mbc2 r) (i : Nat) :
    c.readRamCell i = 0xF0 ||| Memory.read 0x00 c.ram i := by
  rw [Cartridge.readRamCell, hm]
  exact or_F0_and_0F _

theorem Mbc2.writeRamCell_eq {c : Cartridge} (hm : c.mapper = .mbc2 r) (i : Nat) :
    c.writeRamCell i v = { c with ram := Memory.write 0x00 c.ram i (BitVec.ofNat 8 (v.toNat % 16)) } := by
  rw [← and_0F_eq]
  unfold Cartridge.writeRamCell
  split
  · rfl
  · rename_i hne
    exact absurd hm (hne r)

theorem Mbc2.ram_access {s : State} (hm : s.cart.mapper = .mbc2 r) (lo : 0xA000 ≤ a.toNat)
    (hi : a.toNat < 0xC000) (hen : r.ramg = true) :
    memRead a s = (0xF0 ||| Memory.read 0x00 s.cart.ram (a.toNat % 512), s) ∧
      memWrite a v s = withRam (a.toNat % 512) (BitVec.ofNat 8 (v.toNat % 16)) s := by
  have hcell : s.cart.ramTarget a = .cell (a.toNat % 512) := by
    rw [Cartridge.ramTarget, hm]
    exact if_pos hen
  obtain ⟨hread, hwrite⟩ := ramCell_access v lo hi hcell
  rw [Mbc2.readRamCell_eq hm] at hread
  rw [Mbc2.writeRamCell_eq v hm] at hwrite
  exact ⟨hread, hwrite⟩

end

/-- Settles O20: the register stores by `Mbc2.write`, RAM by `Mbc2.ram_access`. -/
theorem mbc2Cartridge : Obligations.Mbc2Cartridge := by
  intro a v r s hm
  have hwrite : s.cart.mapper.writeRom a v = .mbc2 (r.write a v) := by rw [hm]; rfl
  refine ⟨fun lo hi hbit => ?_, fun lo hi hbit => ?_, fun lo hi => ?_, fun hi => ?_, fun lo hi => ?_,
    fun lo hi hen => ?_, fun lo hi hen => Mbc2.ram_access v hm lo hi hen⟩
  · rw [Mbc2.write_ramg v hi hbit] at hwrite
    exact memWrite_sets_mapper v lo (by omega) hwrite
  · rw [Mbc2.write_romb v hi hbit] at hwrite
    exact memWrite_sets_mapper v lo (by omega) hwrite
  · rw [Mbc2.write_nothing v lo, ← hm] at hwrite
    refine memWrite_selects_nothing v (by omega) hi hwrite ?_
    rw [hm]
    exact if_neg (by omega)
  · rw [readRom_low hi, hm, Mapper.lowBank]
  · rw [readRom_high lo hi, hm, Mapper.highBank]
  · refine absentRam_access v lo hi ?_
    rw [Cartridge.ramTarget, hm]
    exact if_neg (by simp [hen])

/-! ### MBC3 -/

section
variable {a : Word} {r : Mbc3} (v : Byte)

theorem Mbc3.write_ramg (hi : a.toNat < 0x2000) :
    r.write a v = { r with ramg := decide (v.toNat % 16 = 0x0A) } := by
  rw [Mbc3.write, if_pos hi, lowNibbleIsA_eq]

theorem Mbc3.write_romb (lo : 0x2000 ≤ a.toNat) (hi : a.toNat < 0x4000) :
    r.write a v = { r with romb := if v.toNat % 128 = 0 then 1 else BitVec.ofNat 7 v.toNat } := by
  rw [Mbc3.write, if_neg (by omega), if_pos hi, nonzeroBank_eq]
  rfl

theorem Mbc3.write_sel (lo : 0x4000 ≤ a.toNat) (hi : a.toNat < 0x6000) :
    r.write a v = { r with sel := BitVec.ofNat 4 v.toNat } := by
  rw [Mbc3.write, if_neg (by omega), if_neg (by omega), if_pos hi, BitVec.ofNat_toNat]

theorem Mbc3.write_nothing (lo : 0x6000 ≤ a.toNat) : r.write a v = r := by
  rw [Mbc3.write, if_neg (by omega), if_neg (by omega), if_neg (by omega)]

/-- A store to the clock-latch range is recorded and changes nothing else (R133). -/
theorem Mbc3.memWrite_latch {clock : Bool} {s : State} (hm : s.cart.mapper = .mbc3 clock r)
    (lo : 0x6000 ≤ a.toNat) (hi : a.toNat < 0x8000) : memWrite a v s = recorded [.rtcLatch v] s := by
  have hwrite : s.cart.mapper.writeRom a v = s.cart.mapper := by
    rw [hm, Mapper.writeRom, Mbc3.write_nothing v lo]
  have hevents : s.cart.mapper.writeRomEvents a v = [.rtcLatch v] := by
    rw [hm]
    exact if_neg (by omega)
  rw [memWrite_of_rom v (target_of_rom s (by omega) hi), writeRom, hwrite, hevents]
  rfl

variable {c : Cartridge} {clock : Bool}

theorem Mbc3.ramTarget_bank (hm : c.mapper = .mbc3 clock r) (hsel : r.sel.toNat ≤ 3) :
    c.ramTarget a = c.externalRam r.ramg r.sel.toNat a := by
  rw [Cartridge.ramTarget, hm]
  exact if_pos hsel

theorem Mbc3.ramTarget_clock (hm : c.mapper = .mbc3 clock r) (hen : r.ramg = true) (hc : clock = true)
    (lo : 0x08 ≤ r.sel.toNat) (hi : r.sel.toNat ≤ 0x0C) : c.ramTarget a = .clock r.sel := by
  rw [Cartridge.ramTarget, hm]
  exact (if_neg (by omega)).trans (if_pos (by simp [hen, hc, lo, hi]))

/-- A selection above 3 reaches nothing, unless RAM is enabled, there is a clock and SEL is one of its registers
(R136). -/
theorem Mbc3.ramTarget_absent (hm : c.mapper = .mbc3 clock r) (hsel : 3 < r.sel.toNat)
    (h : r.ramg = false ∨ clock = false ∨ r.sel.toNat < 0x08 ∨ 0x0C < r.sel.toNat) :
    c.ramTarget a = .absent := by
  rw [Cartridge.ramTarget, hm]
  refine (if_neg (by omega)).trans (if_neg ?_)
  simp only [Bool.and_eq_true, decide_eq_true_eq]
  rintro ⟨⟨hen, hc⟩, hlo, hhi⟩
  rcases h with h | h | h | h
  · exact Bool.false_ne_true (h.symm.trans hen)
  · exact Bool.false_ne_true (h.symm.trans hc)
  · omega
  · omega

end

/-- Settles O21: the register stores by `Mbc3.write`, RAM by the three targets of SEL. -/
theorem mbc3Cartridge : Obligations.Mbc3Cartridge := by
  intro a v clock r s hm
  have hwrite : s.cart.mapper.writeRom a v = .mbc3 clock (r.write a v) := by rw [hm]; rfl
  refine ⟨fun lo hi => ?_, fun lo hi => ?_, fun lo hi => ?_, fun lo hi => Mbc3.memWrite_latch v hm lo hi,
    fun hi => ?_, fun lo hi => ?_, fun lo hi hen hsel hsize => ?_, fun lo hi hen hc hlo hhi => ?_,
    fun lo hi h => ?_⟩
  · rw [Mbc3.write_ramg v hi] at hwrite
    exact memWrite_sets_mapper v lo (by omega) hwrite
  · rw [Mbc3.write_romb v lo hi] at hwrite
    exact memWrite_sets_mapper v (by omega) (by omega) hwrite
  · rw [Mbc3.write_sel v lo hi] at hwrite
    exact memWrite_sets_mapper v (by omega) (by omega) hwrite
  · rw [readRom_low hi, hm, Mapper.lowBank]
  · rw [readRom_high lo hi, hm, Mapper.highBank]
  · exact externalRam_present v lo hi (by rw [hm]; nofun) (Mbc3.ramTarget_bank hm hsel) hen hsize
  · exact clock_access v lo hi (Mbc3.ramTarget_clock hm hen hc hlo hhi)
  · by_cases hsel : r.sel.toNat ≤ 3
    · refine externalRam_absent v lo hi (Mbc3.ramTarget_bank hm hsel) ?_
      exact h.imp_right fun h => h.elim And.right fun h => by omega
    · refine absentRam_access v lo hi (Mbc3.ramTarget_absent hm (by omega) ?_)
      exact h.imp_right fun h => h.elim (fun h => by omega) And.right

/-! ### MBC5 -/

section
variable {a : Word} {r : Mbc5} {rumble : Bool} (v : Byte)

theorem Mbc5.write_ramg (hi : a.toNat < 0x2000) :
    r.write rumble a v = { r with ramg := decide (v.toNat = 0x0A) } := by
  have hv : (v == 0x0A) = decide (v.toNat = 0x0A) := by
    revert v
    decide
  rw [Mbc5.write, if_pos hi, hv]

theorem Mbc5.write_rombLow (lo : 0x2000 ≤ a.toNat) (hi : a.toNat < 0x3000) :
    r.write rumble a v =
      { r with romb := BitVec.ofNat 9 (r.romb.toNat / 256 * 256 + v.toNat) } := by
  have hb : r.romb.extractLsb' 8 1 ++ v = BitVec.ofNat 9 (r.romb.toNat / 256 * 256 + v.toNat) := by
    apply BitVec.eq_of_toNat_eq
    have hr := r.romb.isLt
    have hv := v.isLt
    rw [BitVec.toNat_append, ← Nat.shiftLeft_add_eq_or_of_lt hv, Nat.shiftLeft_eq,
      BitVec.extractLsb'_toNat, Nat.shiftRight_eq_div_pow, BitVec.toNat_ofNat]
    omega
  rw [Mbc5.write, if_neg (by omega), if_pos hi, hb]

theorem Mbc5.write_rombHigh (lo : 0x3000 ≤ a.toNat) (hi : a.toNat < 0x4000) :
    r.write rumble a v =
      { r with romb := BitVec.ofNat 9 (v.toNat % 2 * 256 + r.romb.toNat % 256) } := by
  have hb : BitVec.ofBool (v.getLsbD 0) ++ r.romb.setWidth 8 =
      BitVec.ofNat 9 (v.toNat % 2 * 256 + r.romb.toNat % 256) := by
    apply BitVec.eq_of_toNat_eq
    have hbit : (BitVec.ofBool (v.getLsbD 0)).toNat = v.toNat % 2 := by
      revert v
      decide
    rw [BitVec.toNat_append, ← Nat.shiftLeft_add_eq_or_of_lt (r.romb.setWidth 8).isLt, Nat.shiftLeft_eq,
      hbit, BitVec.toNat_setWidth, BitVec.toNat_ofNat]
    omega
  rw [Mbc5.write, if_neg (by omega), if_neg (by omega), if_pos hi, hb]

theorem Mbc5.write_ramb (lo : 0x4000 ≤ a.toNat) (hi : a.toNat < 0x6000) :
    r.write rumble a v =
      { r with ramb := BitVec.ofNat 4 (if rumble then v.toNat % 8 else v.toNat % 16) } := by
  have hb : (if rumble then (v &&& 0x07).setWidth 4 else v.setWidth 4) =
      BitVec.ofNat 4 (if rumble then v.toNat % 8 else v.toNat % 16) := by
    revert rumble v
    decide
  rw [Mbc5.write, if_neg (by omega), if_neg (by omega), if_neg (by omega), if_pos hi, hb]

theorem Mbc5.write_nothing (lo : 0x6000 ≤ a.toNat) : r.write rumble a v = r := by
  rw [Mbc5.write, if_neg (by omega), if_neg (by omega), if_neg (by omega), if_neg (by omega)]

end

/-- Settles O22: the register stores by `Mbc5.write`, RAM by `externalRam`. -/
theorem mbc5Cartridge : Obligations.Mbc5Cartridge := by
  intro a v rumble r s hm
  have hwrite : s.cart.mapper.writeRom a v = .mbc5 rumble (r.write rumble a v) := by rw [hm]; rfl
  have hram : s.cart.ramTarget a = s.cart.externalRam r.ramg r.ramb.toNat a := by
    rw [Cartridge.ramTarget, hm]
  refine ⟨fun lo hi => ?_, fun lo hi => ?_, fun lo hi => ?_, fun lo hi => ?_, fun lo hi => ?_,
    fun hi => ?_, fun lo hi => ?_, fun lo hi h => externalRam_absent v lo hi hram h,
    fun lo hi hen hsize => externalRam_present v lo hi (by rw [hm]; nofun) hram hen hsize⟩
  · rw [Mbc5.write_ramg v hi] at hwrite
    exact memWrite_sets_mapper v lo (by omega) hwrite
  · rw [Mbc5.write_rombLow v lo hi] at hwrite
    exact memWrite_sets_mapper v (by omega) (by omega) hwrite
  · rw [Mbc5.write_rombHigh v lo hi] at hwrite
    exact memWrite_sets_mapper v (by omega) (by omega) hwrite
  · rw [Mbc5.write_ramb v lo hi] at hwrite
    exact memWrite_sets_mapper v (by omega) (by omega) hwrite
  · rw [Mbc5.write_nothing v lo, ← hm] at hwrite
    refine memWrite_selects_nothing v (by omega) hi hwrite ?_
    rw [hm]
    exact if_neg (by omega)
  · rw [readRom_low hi, hm, Mapper.lowBank]
  · rw [readRom_high lo hi, hm, Mapper.highBank]

end Sys2Proof.Machine
end

section
/-!
PROOFS, the construction. When a cartridge builds and what it is (`Loads`, `buildCartridge_ok`), and with that
the load errors (O3), the cartridge at reset (O5) and the header checksum (O6).
-/

namespace Sys2Proof.Machine

open Sys2Proof.Statements

/-! ### The header bytes -/

theorem imageByte_eq_byteAt {image : List Byte} {k : Nat} (h : k < image.length) :
    imageByte image k = byteAt image k := by
  rw [imageByte, byteAt, List.getD_eq_getElem _ _ h, List.getD_eq_getElem _ _ h]

theorem byteAt_set_same {image : List Byte} {k : Nat} (b : Byte) (h : k < image.length) :
    byteAt (image.set k b) k = b := by
  simp [byteAt, h]

theorem byteAt_set_ne {image : List Byte} {k j : Nat} (b : Byte) (h : k ≠ j) :
    byteAt (image.set k b) j = byteAt image j := by
  simp [byteAt, h]

/-- R99's table has a mapper for the default types and for no other byte. -/
theorem mapperOfType_eq_none_iff (t : Byte) : mapperOfType t = none ↔ t ∉ Config.defaultCartTypes := by
  revert t
  decide

theorem romBanksOfCode_of_le {code : Byte} (h : code.toNat ≤ 8) :
    romBanksOfCode code = some (2 <<< code.toNat) := by
  rw [romBanksOfCode, if_pos h, Nat.shiftLeft_eq]

theorem romBanksOfCode_of_gt {code : Byte} (h : 8 < code.toNat) : romBanksOfCode code = none :=
  if_neg (by omega)

theorem ramSizeOfCode_eq (code : Byte) :
    ramSizeOfCode code =
      if code.toNat < 6 then some ([0, 2048, 8192, 32768, 131072, 65536].getD code.toNat 0) else none := by
  revert code
  decide

/-! ### When a cartridge builds -/

/-- The image passes the checks R98 (a)–(d): it is long enough, its type byte is recognized and has a mapper, and
both size codes are in their tables. -/
def Loads (p : Config.Params) (image : List Byte) : Prop :=
  0x0150 ≤ image.length ∧
  (byteAt image 0x0147 ∈ p.recognizedTypes ∧ byteAt image 0x0147 ∈ Config.defaultCartTypes) ∧
  (byteAt image 0x0148).toNat ≤ 8 ∧ (byteAt image 0x0149).toNat ≤ 5

/-- The cartridge that an image which loads becomes, with its mapper at reset. -/
def loadedCartridge (p : Config.Params) (image : List Byte) (m : Mapper) : Cartridge where
  rom := Memory.ofBytes 0x00 0 image
  romLen := image.length
  romBanks := 2 <<< (byteAt image 0x0148).toNat
  ramSize := [0, 2048, 8192, 32768, 131072, 65536].getD (byteAt image 0x0149).toNat 0
  ram := initialRam m ([0, 2048, 8192, 32768, 131072, 65536].getD (byteAt image 0x0149).toNat 0) p.cartRamInit
  mapper := m

theorem loadedCartridge_ram (p : Config.Params) (image : List Byte) (m : Mapper) :
    (loadedCartridge p image m).ram = initialRam m (loadedCartridge p image m).ramSize p.cartRamInit := rfl

section
variable {p : Config.Params} {image : List Byte}

theorem buildCartridge_tooShort (h : image.length < 0x0150) : buildCartridge p image = .error .tooShort :=
  if_pos h

/-- The three header bytes that a construction reads. -/
theorem headerOf_bytes (h : 0x0150 ≤ image.length) :
    (headerOf image).cartType = byteAt image 0x0147 ∧ (headerOf image).romSizeCode = byteAt image 0x0148 ∧
      (headerOf image).ramSizeCode = byteAt image 0x0149 :=
  ⟨imageByte_eq_byteAt (by omega), imageByte_eq_byteAt (by omega), imageByte_eq_byteAt (by omega)⟩

theorem buildCartridge_unknownType (h : 0x0150 ≤ image.length)
    (hk : ¬ (byteAt image 0x0147 ∈ p.recognizedTypes ∧ byteAt image 0x0147 ∈ Config.defaultCartTypes)) :
    buildCartridge p image = .error (.unknownType (byteAt image 0x0147)) := by
  obtain ⟨ht, -, -⟩ := headerOf_bytes h
  rw [buildCartridge, if_neg (by omega)]
  simp only [ht]
  by_cases hr : byteAt image 0x0147 ∈ p.recognizedTypes
  · have hm := (mapperOfType_eq_none_iff _).mpr fun hd => hk ⟨hr, hd⟩
    rw [if_neg (not_not_intro hr), hm]
  · rw [if_pos hr]

/-- The mapper that a recognized type byte of R99's table selects. -/
theorem exists_mapperOfType {t : Byte} (h : t ∈ Config.defaultCartTypes) : ∃ m, mapperOfType t = some m :=
  Option.ne_none_iff_exists'.mp fun hn => (mapperOfType_eq_none_iff t).mp hn h

theorem buildCartridge_badRomSize (h : 0x0150 ≤ image.length)
    (hk : byteAt image 0x0147 ∈ p.recognizedTypes ∧ byteAt image 0x0147 ∈ Config.defaultCartTypes)
    (hrom : 8 < (byteAt image 0x0148).toNat) :
    buildCartridge p image = .error (.badRomSize (byteAt image 0x0148)) := by
  obtain ⟨ht, hc, -⟩ := headerOf_bytes h
  obtain ⟨m, hm⟩ := exists_mapperOfType hk.2
  rw [buildCartridge, if_neg (by omega)]
  simp only [ht, hc]
  rw [if_neg (not_not_intro hk.1), hm, romBanksOfCode_of_gt hrom]

theorem buildCartridge_badRamSize (h : 0x0150 ≤ image.length)
    (hk : byteAt image 0x0147 ∈ p.recognizedTypes ∧ byteAt image 0x0147 ∈ Config.defaultCartTypes)
    (hrom : (byteAt image 0x0148).toNat ≤ 8) (hram : 5 < (byteAt image 0x0149).toNat) :
    buildCartridge p image = .error (.badRamSize (byteAt image 0x0149)) := by
  obtain ⟨ht, hc, hr⟩ := headerOf_bytes h
  obtain ⟨m, hm⟩ := exists_mapperOfType hk.2
  rw [buildCartridge, if_neg (by omega)]
  simp only [ht, hc, hr]
  rw [if_neg (not_not_intro hk.1), hm, romBanksOfCode_of_le hrom, ramSizeOfCode_eq, if_neg (by omega)]

theorem buildCartridge_of_loads (h : Loads p image) :
    ∃ m, mapperOfType (byteAt image 0x0147) = some m ∧
      buildCartridge p image = .ok (loadedCartridge p image m) := by
  obtain ⟨hlen, hk, hrom, hram⟩ := h
  obtain ⟨ht, hc, hr⟩ := headerOf_bytes hlen
  obtain ⟨m, hm⟩ := exists_mapperOfType hk.2
  refine ⟨m, hm, ?_⟩
  rw [buildCartridge, if_neg (by omega)]
  simp only [ht, hc, hr]
  rw [if_neg (not_not_intro hk.1), hm, romBanksOfCode_of_le hrom, ramSizeOfCode_eq, if_pos (by omega)]
  rfl

theorem loads_of_buildCartridge {c : Cartridge} (h : buildCartridge p image = .ok c) : Loads p image := by
  by_contra hload
  by_cases hlen : image.length < 0x0150
  · cases (buildCartridge_tooShort hlen).symm.trans h
  by_cases hk : byteAt image 0x0147 ∈ p.recognizedTypes ∧ byteAt image 0x0147 ∈ Config.defaultCartTypes
  case neg => cases (buildCartridge_unknownType (by omega) hk).symm.trans h
  by_cases hrom : (byteAt image 0x0148).toNat ≤ 8
  case neg => cases (buildCartridge_badRomSize (by omega) hk (by omega)).symm.trans h
  by_cases hram : (byteAt image 0x0149).toNat ≤ 5
  case neg => cases (buildCartridge_badRamSize (by omega) hk hrom (by omega)).symm.trans h
  exact hload ⟨by omega, hk, hrom, hram⟩

/-! ### When a construction succeeds -/

variable {boot : Option (List Byte)}

theorem construct_of_cartridge_error {e : LoadError} (h : buildCartridge p image = .error e) :
    construct p image boot = .error e := by
  rw [construct, h]

theorem construct_of_boot_error {c : Cartridge} {e : LoadError} (h : buildCartridge p image = .ok c)
    (hb : buildBoot p boot = .error e) : construct p image boot = .error e := by
  rw [construct, h]
  simp only [hb]

theorem construct_of_ok {c : Cartridge} {buffer : Memory} (h : buildCartridge p image = .ok c)
    (hb : buildBoot p boot = .ok buffer) : ∃ s, construct p image boot = .ok s := by
  rw [construct, h]
  simp only [hb]
  exact ⟨_, rfl⟩

/-- The cartridge of a state that a construction answers (R460). -/
theorem construct_cart {s : State} (h : construct p image boot = .ok s) :
    buildCartridge p image = .ok s.cart ∧ ∃ buffer, buildBoot p boot = .ok buffer := by
  unfold construct at h
  split at h
  · cases h
  · rename_i c hc
    split at h
    · cases h
    · rename_i buffer hb
      cases h
      exact ⟨hc, buffer, hb⟩

theorem construct_succeeds_iff :
    (∃ s, construct p image boot = .ok s) ↔ Loads p image ∧ ∃ buffer, buildBoot p boot = .ok buffer := by
  refine ⟨fun ⟨s, hs⟩ => ?_, fun ⟨hload, buffer, hb⟩ => ?_⟩
  · obtain ⟨hc, hb⟩ := construct_cart hs
    exact ⟨loads_of_buildCartridge hc, hb⟩
  · obtain ⟨m, -, hc⟩ := buildCartridge_of_loads hload
    exact construct_of_ok hc hb

theorem buildBoot_badSize {b : List Byte} (hs : p.strictBootValidation = true) (h1 : b.length ≠ 256)
    (h2 : b.length ≠ 2304) : buildBoot p (some b) = .error (.badBootSize b.length) :=
  if_pos (by simp [hs, h1, h2])

theorem buildBoot_ok (h : ∀ b, boot = some b →
      ¬ (p.strictBootValidation = true ∧ b.length ≠ 256 ∧ b.length ≠ 2304)) :
    ∃ buffer, buildBoot p boot = .ok buffer := by
  cases boot with
  | none => exact ⟨_, rfl⟩
  | some b => exact ⟨_, if_neg fun hb => h b rfl (by simpa [and_assoc] using hb)⟩

end

/-- Settles O3: each error of `buildCartridge` is the construction's, then that of `buildBoot`. -/
theorem constructFailsExactlyOnLoadErrors : Obligations.ConstructFailsExactlyOnLoadErrors := by
  intro p image boot
  refine ⟨fun h => construct_of_cartridge_error (buildCartridge_tooShort h),
    fun h hk => construct_of_cartridge_error (buildCartridge_unknownType h hk),
    fun h hk hrom => construct_of_cartridge_error (buildCartridge_badRomSize h hk hrom),
    fun h hk hrom hram => construct_of_cartridge_error (buildCartridge_badRamSize h hk hrom hram),
    fun h hk hrom hram => ?_⟩
  have hload : Loads p image := ⟨h, hk, hrom, hram⟩
  obtain ⟨m, -, hc⟩ := buildCartridge_of_loads hload
  refine ⟨?_, fun hb => construct_succeeds_iff.mpr ⟨hload, buildBoot_ok hb⟩⟩
  rintro b rfl ⟨hs, h1, h2⟩
  exact construct_of_boot_error hc (buildBoot_badSize hs h1 h2)

/-! ### The cartridge at reset -/

/-- The mappers of R99's table with their types, at reset. -/
theorem mapperOfType_cases {t : Byte} {m : Mapper} (h : mapperOfType t = some m) :
    (t.toNat = 0 ∧ m = .noMapper) ∨
    (0x01 ≤ t.toNat ∧ t.toNat ≤ 0x03 ∧
      m = .mbc1 { ramg := false, bank1 := 1, bank2 := 0, mode := false }) ∨
    (0x05 ≤ t.toNat ∧ t.toNat ≤ 0x06 ∧ m = .mbc2 { ramg := false, romb := 1 }) ∨
    (0x0F ≤ t.toNat ∧ t.toNat ≤ 0x13 ∧
      m = .mbc3 (decide (t.toNat ≤ 0x10)) { ramg := false, romb := 1, sel := 0 }) ∨
    (0x19 ≤ t.toNat ∧ m = .mbc5 (decide (0x1C ≤ t.toNat)) { ramg := false, romb := 1, ramb := 0 }) := by
  unfold mapperOfType at h
  split at h <;> cases h <;> rename_i e <;> simp [e]

/-- Every mapper shows bank 1 in the upper window at reset (R468). -/
theorem highBank_of_type {t : Byte} {m : Mapper} (h : mapperOfType t = some m) : m.highBank = 1 := by
  rcases mapperOfType_cases h with ⟨-, rfl⟩ | ⟨-, -, rfl⟩ | ⟨-, -, rfl⟩ | ⟨-, -, rfl⟩ | ⟨-, rfl⟩ <;> rfl

/-- External RAM is disabled at reset (R468). -/
theorem ramTarget_of_type {t : Byte} {c : Cartridge} (a : Word) (h : mapperOfType t = some c.mapper) :
    c.ramTarget a = .absent := by
  unfold Cartridge.ramTarget
  rcases mapperOfType_cases h with ⟨-, e⟩ | ⟨-, -, e⟩ | ⟨-, -, e⟩ | ⟨-, -, e⟩ | ⟨-, e⟩ <;> rw [e] <;> rfl

theorem readValue_of_absentRam {a : Word} {s : State} (lo : 0xA000 ≤ a.toNat) (hi : a.toNat < 0xC000)
    (h : s.cart.ramTarget a = .absent) : readValue a s = 0xFF :=
  congrArg Prod.fst (absentRam_access 0x00 lo hi h).1

theorem readValue_of_romRange {a : Word} (s : State) (lo : 0x0100 ≤ a.toNat) (hi : a.toNat < 0x8000) :
    readValue a s = s.cart.readRom a :=
  congrArg Prod.fst (memRead_of_rom (target_of_rom s lo hi))

theorem Memory.read_ofBytes_zero (bytes : List Byte) (i : Nat) :
    Memory.read 0x00 (Memory.ofBytes 0x00 0 bytes) i = byteAt bytes i := by
  have h := Memory.read_ofBytes (d := 0x00) bytes 0 i
  rwa [Nat.zero_add] at h

theorem byteAt_take {bytes : List Byte} {n i : Nat} (h : i < n) : byteAt (bytes.take n) i = byteAt bytes i := by
  simp [byteAt, List.getElem?_take_of_lt h]

theorem byteAt_map_low (bytes : List Byte) (i : Nat) :
    byteAt (bytes.map (· &&& 0x0F)) i = byteAt bytes i &&& 0x0F :=
  List.getD_map bytes (0x00 : Byte) (n := i) (· &&& 0x0F)

/-- A byte array of cartridge RAM holds `CART_RAM_INIT` (R469). -/
theorem read_initialRam_bytes {m : Mapper} {size i : Nat} (init : List Byte) (hno : m ≠ .noMapper)
    (h2 : ∀ r, m ≠ .mbc2 r) (hi : i < size) :
    Memory.read 0x00 (initialRam m size init) i = byteAt init i := by
  have hram : initialRam m size init = Memory.ofBytes 0x00 0 (init.take size) := by
    unfold initialRam
    split
    · exact absurd rfl hno
    · exact absurd rfl (h2 _)
    · rfl
  rw [hram, Memory.read_ofBytes_zero, byteAt_take hi]

/-- The cells of an MBC2 hold the low four bits of `CART_RAM_INIT` (R125, R469). -/
theorem read_initialRam_mbc2 {r : Mbc2} {size i : Nat} (init : List Byte) (hi : i < 512) :
    Memory.read 0x00 (initialRam (.mbc2 r) size init) i = byteAt init i &&& 0x0F := by
  rw [initialRam, Memory.read_ofBytes_zero, byteAt_map_low, byteAt_take (n := Config.ram2Size) hi]

/-- Settles O5: the cartridge is `loadedCartridge`, with the mapper of the type byte at reset. -/
theorem cartridgeAtReset : Obligations.CartridgeAtReset := by
  intro p image boot s h
  obtain ⟨hc, -⟩ := construct_cart h
  have hload := loads_of_buildCartridge hc
  obtain ⟨m, hm, hc'⟩ := buildCartridge_of_loads hload
  have hcart : s.cart = loadedCartridge p image m := Except.ok.inj (hc.symm.trans hc')
  obtain ⟨-, -, -, hram⟩ := hload
  have hbanks : 2 ≤ 2 <<< (byteAt image 0x0148).toNat := by
    rw [Nat.shiftLeft_eq]
    exact Nat.le_mul_of_pos_right 2 (Nat.two_pow_pos _)
  have hcases := mapperOfType_cases hm
  refine ⟨?_, congrArg Cartridge.romBanks hcart, by omega, congrArg Cartridge.ramSize hcart,
    fun a lo hi => ?_, fun a lo hi => ?_, fun ht i hi => ?_, fun ht i hi => ?_⟩
  · refine (congrArg Cartridge.mapper hcart).trans (Eq.trans (b := m) rfl ?_)
    rcases hcases with ⟨e, rfl⟩ | ⟨lo, hi, rfl⟩ | ⟨lo, hi, rfl⟩ | ⟨lo, hi, rfl⟩ | ⟨lo, rfl⟩
    · rw [if_pos e]
    · rw [if_neg (by omega), if_pos hi]
    · rw [if_neg (by omega), if_neg (by omega), if_pos hi]
    · rw [if_neg (by omega), if_neg (by omega), if_neg (by omega), if_pos hi]
    · rw [if_neg (by omega), if_neg (by omega), if_neg (by omega), if_neg (by omega)]
  · exact readValue_of_absentRam lo hi (ramTarget_of_type a (by rw [hcart]; exact hm))
  · have hhigh : s.cart.mapper.highBank = 1 := by rw [hcart]; exact highBank_of_type hm
    rw [readValue_of_romRange s (by omega) hi, readRom_high lo hi, hhigh,
      romAt_one (by rw [hcart]; exact hbanks) lo, hcart, ← Memory.read_ofBytes_zero]
    rfl
  · rw [hcart] at hi ⊢
    rw [loadedCartridge_ram]
    refine read_initialRam_bytes p.cartRamInit ?_ ?_ hi
    · rintro rfl
      simp only [reduceCtorEq, and_true, and_false, or_false] at hcases
      omega
    · rintro r rfl
      simp only [reduceCtorEq, and_false, false_or, or_false] at hcases
      omega
  · rcases hcases with ⟨e, -⟩ | ⟨-, e, -⟩ | ⟨-, -, rfl⟩ | ⟨e, -, -⟩ | ⟨e, -⟩
    case inr.inr.inl =>
      rw [hcart, loadedCartridge_ram]
      exact read_initialRam_mbc2 p.cartRamInit hi
    all_goals omega

/-! ### The header checksum -/

theorem imageBytes_eq_map {image : List Byte} {offset n : Nat} (h : offset + n ≤ image.length) :
    imageBytes image offset n = (List.range n).map fun i => byteAt image (offset + i) := by
  refine List.ext_getElem ?_ fun i h1 h2 => ?_
  · simp only [imageBytes, List.length_take, List.length_drop, List.length_map, List.length_range]
    omega
  · have hi : i < n := by simpa using h2
    simp [imageBytes, byteAt, List.getElem?_eq_getElem (show offset + i < image.length by omega)]

/-- The loop of R97 takes away the sum of the bytes, and 1 for each, modulo 256. -/
theorem checksum_foldl (bytes : List Byte) (x : Byte) :
    ((bytes.foldl (fun x b => x - b - 1) x).toNat + (bytes.map BitVec.toNat).sum + bytes.length) % 256 =
      x.toNat := by
  induction bytes generalizing x with
  | nil => exact Nat.mod_eq_of_lt x.isLt
  | cons b bytes ih =>
    have hx := ih (x - b - 1)
    simp only [List.foldl_cons, List.map_cons, List.sum_cons, List.length_cons]
    bv_omega

/-- The sum of the header bytes 0x0134–0x014C (R97). -/
def headerSum (image : List Byte) : Nat :=
  ((List.range 25).map fun i => (byteAt image (0x0134 + i)).toNat).sum

theorem isHeaderChecksumValid_iff {image : List Byte} (h : 0x0150 ≤ image.length) :
    isHeaderChecksumValid image = true ↔
      (headerSum image + 25 + (byteAt image 0x014D).toNat) % 256 = 0 := by
  have hsum := checksum_foldl (imageBytes image 0x0134 25) 0x00
  rw [imageBytes_eq_map (by omega), List.map_map, List.length_map, List.length_range,
    ← imageBytes_eq_map (by omega)] at hsum
  have hclosed : ((checksumOf image).toNat + headerSum image + 25) % 256 = 0 := hsum
  rw [isHeaderChecksumValid, beq_iff_eq, imageByte_eq_byteAt (by omega), ← BitVec.toNat_inj]
  have h1 := (checksumOf image).isLt
  have h2 := (byteAt image 0x014D).isLt
  omega

/-- Sums over a range of two functions that differ at one index. -/
theorem sum_range_of_one_change {n j : Nat} {f g : Nat → Nat} (hj : j < n) (h : ∀ i, i ≠ j → g i = f i) :
    ((List.range n).map g).sum + f j = ((List.range n).map f).sum + g j := by
  have hf := Finset.add_sum_erase (Finset.range n) f (Finset.mem_range.mpr hj)
  have hg := Finset.add_sum_erase (Finset.range n) g (Finset.mem_range.mpr hj)
  have hrest : ∑ i ∈ (Finset.range n).erase j, g i = ∑ i ∈ (Finset.range n).erase j, f i :=
    Finset.sum_congr rfl fun i hi => h i (Finset.ne_of_mem_erase hi)
  have hlist : ∀ k : Nat → Nat, ((List.range n).map k).sum = ∑ i ∈ Finset.range n, k i := fun _ => rfl
  rw [hlist, hlist]
  omega

theorem headerSum_set {image : List Byte} {k : Nat} (b : Byte) (h : k < image.length) (lo : 0x0134 ≤ k)
    (hi : k ≤ 0x014C) :
    headerSum (image.set k b) + (byteAt image k).toNat = headerSum image + b.toNat := by
  have hk : 0x0134 + (k - 0x0134) = k := by omega
  have hsum := sum_range_of_one_change (n := 25) (j := k - 0x0134)
    (f := fun i => (byteAt image (0x0134 + i)).toNat)
    (g := fun i => (byteAt (image.set k b) (0x0134 + i)).toNat) (by omega) fun i hne => by
      rw [byteAt_set_ne b (by omega)]
  simp only [hk, byteAt_set_same b h] at hsum
  exact hsum

/-- Another byte in the field breaks a valid checksum (R97). -/
theorem isHeaderChecksumValid_set {image : List Byte} {k : Nat} {b : Byte} (h : 0x0150 ≤ image.length)
    (lo : 0x0134 ≤ k) (hi : k ≤ 0x014C) (hne : b ≠ byteAt image k) (hv : isHeaderChecksumValid image = true) :
    isHeaderChecksumValid (image.set k b) = false := by
  refine Bool.eq_false_iff.mpr fun hv' => hne (BitVec.eq_of_toNat_eq ?_)
  rw [isHeaderChecksumValid_iff h] at hv
  rw [isHeaderChecksumValid_iff (by rwa [List.length_set]), byteAt_set_ne b (by omega)] at hv'
  have hsum := headerSum_set (image := image) b (by omega) lo hi
  have h1 := b.isLt
  have h2 := (byteAt image k).isLt
  omega

/-- No check of a load reads the stored checksum (R97). -/
theorem loads_set_checksum (p : Config.Params) (image : List Byte) (b : Byte) :
    Loads p (image.set 0x014D b) ↔ Loads p image := by
  rw [Loads, List.length_set, byteAt_set_ne b (by decide), byteAt_set_ne b (by decide),
    byteAt_set_ne b (by decide)]
  rfl

/-- Settles O6: the loop in closed form, its sum with one byte changed, and what a load checks. -/
theorem headerChecksum : Obligations.HeaderChecksum := by
  intro image h
  refine ⟨isHeaderChecksumValid_iff h, fun k b lo hi hne hv => isHeaderChecksumValid_set h lo hi hne hv,
    fun p boot b => ?_⟩
  rw [construct_succeeds_iff, construct_succeeds_iff, loads_set_checksum]

end Sys2Proof.Machine
end

section
/-!
PROOFS, the frame of a store (O11). What reading an address looks at (`SameMemory`), and what a store leaves for
an address apart from it: what the address reaches, what it reads as, and the addresses it is apart from.
-/

namespace Sys2Proof.Machine

open Sys2Proof.Statements

/-! ### What reading an address looks at -/

/-- `t` has the memories, the cartridge and the interrupt registers of `s`, whatever its record of accesses. -/
def SameMemory (s t : State) : Prop :=
  (∃ evs, t.bus = { s.bus with events := evs }) ∧ t.cart = s.cart ∧ t.irq = s.irq

theorem SameMemory.of_units {s t : State} (hb : t.bus = s.bus) (hc : t.cart = s.cart) (hi : t.irq = s.irq) :
    SameMemory s t :=
  ⟨⟨_, hb⟩, hc, hi⟩

theorem SameMemory.refl (s : State) : SameMemory s s := .of_units rfl rfl rfl

theorem SameMemory.trans {s t u : State} (h : SameMemory s t) (k : SameMemory t u) : SameMemory s u := by
  obtain ⟨⟨evs, hb⟩, hc, hi⟩ := h
  obtain ⟨⟨evs', kb⟩, kc, ki⟩ := k
  exact ⟨⟨evs', by rw [kb, hb]⟩, kc.trans hc, ki.trans hi⟩

theorem SameMemory.recorded (evs : List BusEvent) (s : State) : SameMemory s (recorded evs s) :=
  ⟨⟨_, rfl⟩, rfl, rfl⟩

theorem SameMemory.afterRead (a : Word) (s : State) : SameMemory s (afterRead a s) := by
  rw [afterRead_eq_recorded]
  exact .recorded _ s

theorem SameMemory.target_eq {s t : State} (h : SameMemory s t) (x : Word) : target x t = target x s := by
  obtain ⟨⟨evs, hb⟩, hc, -⟩ := h
  unfold target
  rw [hb, hc]

theorem SameMemory.readCell_eq {s t : State} (h : SameMemory s t) (c : CellId) : readCell c t = readCell c s := by
  obtain ⟨⟨evs, hb⟩, hc, -⟩ := h
  unfold readCell
  rw [hb, hc]

theorem SameMemory.busValue_eq {s t : State} (h : SameMemory s t) (io clock : Byte) (x : Word) :
    busValue io clock x t = busValue io clock x s := by
  unfold busValue
  rw [h.target_eq x]
  obtain ⟨⟨evs, hb⟩, hc, hi⟩ := id h
  cases target x s with
  | cell c => exact h.readCell_eq c
  | _ => simp only [hb, hc, hi]

theorem SameMemory.apart {s t : State} (h : SameMemory s t) {b x : Word} (hb : Apart b x s) : Apart b x t := by
  unfold Apart at hb ⊢
  simp only [h.target_eq]
  obtain ⟨⟨evs, hbus⟩, hc, -⟩ := h
  rw [hbus, hc]
  exact hb

/-! ### Being apart, by what the store reaches -/

section
variable {a x : Word} {s : State}

theorem apart_of_rom (h : target a s = .rom) (hap : Apart a x s) :
    s.cart.mapper = .noMapper ∨ (x.toNat < 0x100 ∧ s.bus.bootMapped = true) ∨
      (0x8000 ≤ x.toNat ∧ x.toNat < 0xA000) ∨ 0xC000 ≤ x.toNat := by
  have hr := target_holds a s
  rw [h] at hr
  rwa [Apart, region_eq (r := .rom) hr] at hap

theorem apart_of_unmapReg (h : target a s = .unmapReg) (hap : Apart a x s) : 0x100 ≤ x.toNat := by
  have hr := target_holds a s
  rw [h] at hr
  rwa [Apart, region_eq (r := .unmapReg) hr] at hap

/-- But for ROM and the unmap register, addresses are apart that differ and reach no common cell. -/
theorem apart_of_other_iff (hrom : target a s ≠ .rom) (hunmap : target a s ≠ .unmapReg) :
    Apart a x s ↔ x ≠ a ∧ ∀ c, target a s = .cell c → target x s ≠ .cell c := by
  unfold Apart
  split
  · rename_i e
    exact absurd (by rw [target, e]) hrom
  · rename_i e
    exact absurd (by rw [target, e]) hunmap
  · exact Iff.rfl

end

/-! ### What a store leaves of the boot overlay and the mapper -/

section
variable {a x : Word} {s : State} (v : Byte)

theorem memWrite_bootMapped (h : target a s ≠ .unmapReg) :
    (memWrite a v s).bus.bootMapped = s.bus.bootMapped := by
  unfold memWrite
  split
  case h_4 => exact writeCell_bus_bootMapped _ v s
  case h_10 e => exact absurd e h
  all_goals rfl

theorem memWrite_cart_mapper (h : target a s ≠ .rom ∨ s.cart.mapper = .noMapper) :
    (memWrite a v s).cart.mapper = s.cart.mapper := by
  unfold memWrite
  split
  case h_3 e =>
    rw [writeRom_of_noMapper v (h.resolve_left (absurd e))]
  case h_4 => exact writeCell_cart_mapper _ v s
  case h_10 => split <;> rfl
  all_goals rfl

theorem memWrite_noMapper (h : s.cart.mapper = .noMapper) : (memWrite a v s).cart.mapper = .noMapper :=
  (memWrite_cart_mapper v (.inr h)).trans h

/-- The boot overlay is what it was, for an address apart from the store that could see it. -/
theorem memWrite_bootMapped_of_apart (hap : Apart a x s) (hx : x.toNat < 0x100) :
    (memWrite a v s).bus.bootMapped = s.bus.bootMapped :=
  memWrite_bootMapped v fun h => by
    have := apart_of_unmapReg h hap
    omega

/-- The mapper registers are what they were, for an address of cartridge RAM apart from the store. -/
theorem memWrite_mapper_of_apart (hap : Apart a x s) (lo : 0xA000 ≤ x.toNat) (hi : x.toNat < 0xC000) :
    (memWrite a v s).cart.mapper = s.cart.mapper := by
  refine memWrite_cart_mapper v ?_
  by_cases h : target a s = .rom
  · refine .inr ((apart_of_rom h hap).resolve_right ?_)
    omega
  · exact .inl h

end

/-! ### What an address apart from a store reaches -/

theorem Cartridge.ramTarget_congr {c d : Cartridge} (x : Word) (hm : d.mapper = c.mapper)
    (hs : d.ramSize = c.ramSize) : d.ramTarget x = c.ramTarget x := by
  simp only [Cartridge.ramTarget, Cartridge.externalRam, Cartridge.ramIndex, hm, hs]

/-- What an address reaches depends on the boot overlay below 0x0100, and on the cartridge at cartridge RAM. -/
theorem target_congr {x : Word} {s t : State}
    (hboot : x.toNat < 0x100 → t.bus.bootMapped = s.bus.bootMapped)
    (hram : 0xA000 ≤ x.toNat → x.toNat < 0xC000 → t.cart.ramTarget x = s.cart.ramTarget x) :
    target x t = target x s := by
  have hr := region_holds x
  unfold target
  generalize region x = r at hr
  cases r with
  | lowRom => simp only [hboot hr]
  | cartRam => simp only [hram hr.1 hr.2]
  | _ => rfl

section
variable {a b x : Word} {s : State} (v : Byte)

theorem target_memWrite_of_mapper (hm : (memWrite a v s).cart.mapper = s.cart.mapper) (lo : 0xA000 ≤ b.toNat) :
    target b (memWrite a v s) = target b s :=
  target_congr (fun h => by omega) fun _ _ =>
    Cartridge.ramTarget_congr b hm (memWrite_cart_ramSize a v s)

theorem target_memWrite_of_apart (hap : Apart a x s) : target x (memWrite a v s) = target x s :=
  target_congr (memWrite_bootMapped_of_apart v hap) fun lo hi =>
    Cartridge.ramTarget_congr x (memWrite_mapper_of_apart v hap lo hi) (memWrite_cart_ramSize a v s)

/-- An address that reaches a cell of a RAM array of the bus reaches it in every state. -/
theorem target_cell_of_bus {t : State} {c : CellId} (hc : ∀ i, c ≠ .cartRam i) (h : target b t = .cell c)
    (s : State) : target b s = .cell c := by
  have hr := target_holds b t
  rw [h] at hr
  rw [← h]
  refine target_congr (fun hlo => ?_) fun lo hi => ?_
  all_goals
    cases c
    case cartRam i => exact absurd rfl (hc i)
    all_goals
      simp only [Target.holds, Region.holds] at hr
      omega

/-- A store leaves apart from `x` what was apart from it, if the store itself is apart from `x`. -/
theorem apart_memWrite (hap : Apart a x s) (hb : Apart b x s) : Apart b x (memWrite a v s) := by
  unfold Apart at hb ⊢
  split at hb
  · refine hb.imp (memWrite_noMapper v) (Or.imp_left ?_)
    rintro ⟨hx, hboot⟩
    exact ⟨hx, (memWrite_bootMapped_of_apart v hap hx).trans hboot⟩
  · exact hb
  · refine ⟨hb.1, fun c hcb hcx => ?_⟩
    have hxs := (target_memWrite_of_apart v hap).symm.trans hcx
    refine hb.2 c ?_ hxs
    by_cases hc : ∃ i, c = .cartRam i
    · obtain ⟨i, rfl⟩ := hc
      have hx := target_holds x s
      have hb' := target_holds b (memWrite a v s)
      rw [hxs] at hx
      rw [hcb] at hb'
      rw [← target_memWrite_of_mapper v (memWrite_mapper_of_apart v hap hx.1 hx.2) hb'.1]
      exact hcb
    · exact target_cell_of_bus (fun i e => hc ⟨i, e⟩) hcb s

end

/-! ### What an address apart from a store reads as -/

theorem Cartridge.readRamCell_writeRamCell_ne (c : Cartridge) {i j : Nat} (v : Byte) (h : j ≠ i) :
    (c.writeRamCell i v).readRamCell j = c.readRamCell j := by
  unfold Cartridge.readRamCell Cartridge.writeRamCell
  cases c.mapper <;> simp only [Memory.read_write_ne _ i j _ h]

theorem readCell_writeCell_ne {c d : CellId} (v : Byte) (s : State) (h : d ≠ c) :
    readCell d (writeCell c v s) = readCell d s := by
  cases c with
  | vram i =>
    cases d with
    | vram j => exact Memory.read_write_ne _ i j v fun e => h (e ▸ rfl)
    | _ => rfl
  | wram i =>
    cases d with
    | wram j => exact Memory.read_write_ne _ i j v fun e => h (e ▸ rfl)
    | _ => rfl
  | oam i =>
    cases d with
    | oam j => exact Memory.read_write_ne _ i j v fun e => h (e ▸ rfl)
    | _ => rfl
  | hram i =>
    cases d with
    | hram j => exact Memory.read_write_ne _ i j v fun e => h (e ▸ rfl)
    | _ => rfl
  | cartRam i =>
    cases d with
    | cartRam j => exact Cartridge.readRamCell_writeRamCell_ne _ v fun e => h (e ▸ rfl)
    | _ => rfl

/-- A store to the mapper registers changes no cell. -/
theorem readCell_writeRom (c : CellId) (a : Word) (v : Byte) (s : State) :
    readCell c (writeRom a v s) = readCell c s := by
  cases c with
  | cartRam i =>
    simp only [readCell, Cartridge.readRamCell, writeRom]
    cases s.cart.mapper <;> rfl
  | _ => rfl

section
variable {a x : Word} {s : State} (v : Byte)

theorem readCell_memWrite {c : CellId} (h : ∀ d, target a s = .cell d → c ≠ d) :
    readCell c (memWrite a v s) = readCell c s := by
  unfold memWrite
  split
  case h_3 => exact readCell_writeRom c a v s
  case h_4 d e => exact readCell_writeCell_ne v s (h d e)
  case h_10 => split <;> rfl
  all_goals rfl

theorem memWrite_irq_ifr (h : target a s ≠ .ifReg) : (memWrite a v s).irq.ifr = s.irq.ifr := by
  unfold memWrite
  split
  case h_4 => rw [writeCell_irq]
  case h_9 e => exact absurd e h
  case h_10 => split <;> rfl
  all_goals rfl

theorem memWrite_irq_ie (h : target a s ≠ .ieReg) : (memWrite a v s).irq.ie = s.irq.ie := by
  unfold memWrite
  split
  case h_4 => rw [writeCell_irq]
  case h_10 => split <;> rfl
  case h_11 e => exact absurd e h
  all_goals rfl

theorem Cartridge.readRom_congr {c d : Cartridge} (x : Word) (hrom : d.rom = c.rom) (hlen : d.romLen = c.romLen)
    (hbanks : d.romBanks = c.romBanks) (hm : d.mapper = c.mapper) : d.readRom x = c.readRom x := by
  cases c
  cases d
  cases hrom
  cases hlen
  cases hbanks
  cases hm
  rfl

/-- Where ROM is shown, a store apart from the address leaves the mapper registers. -/
theorem memWrite_mapper_of_romShown (hap : Apart a x s) (hx : target x s = .lowRom ∨ target x s = .rom) :
    (memWrite a v s).cart.mapper = s.cart.mapper := by
  refine memWrite_cart_mapper v ?_
  by_cases h : target a s = .rom
  · refine .inr ((apart_of_rom h hap).resolve_right ?_)
    rintro (⟨hlo, hboot⟩ | hx')
    · have hboot' := target_of_boot hlo hboot
      rw [hboot'] at hx
      exact hx.elim nofun nofun
    · have hr := target_holds x s
      rcases hx with e | e
      all_goals
        simp only [e, Target.holds, Region.holds] at hr
        omega
  · exact .inl h

/-- Apart addresses do not both reach one register of the interrupt controller. -/
theorem target_ne_of_apart {r : Target} (hr : r = .ifReg ∨ r = .ieReg) (hap : Apart a x s)
    (hx : target x s = r) : target a s ≠ r := by
  intro ha
  have hax := target_holds a s
  have hxx := target_holds x s
  rw [ha] at hax
  rw [hx] at hxx
  rcases hr with rfl | rfl
  all_goals
    refine ((apart_of_other_iff (by rw [ha]; nofun) (by rw [ha]; nofun)).mp hap).1 (BitVec.eq_of_toNat_eq ?_)
    exact Eq.trans hxx (Eq.symm hax)

/-- The byte read at an address is made of what it reaches and of that array, window or register. -/
theorem busValue_congr {t : State} (io clock : Byte) (ht : target x t = target x s)
    (hboot : t.bus.boot = s.bus.boot)
    (hrom : target x s = .lowRom ∨ target x s = .rom → t.cart.readRom x = s.cart.readRom x)
    (hcell : ∀ c, target x s = .cell c → readCell c t = readCell c s)
    (hif : target x s = .ifReg → t.irq.ifr = s.irq.ifr) (hie : target x s = .ieReg → t.irq.ie = s.irq.ie) :
    busValue io clock x t = busValue io clock x s := by
  unfold busValue
  rw [ht]
  cases hx : target x s with
  | boot => simp only [hboot]
  | lowRom => exact hrom (.inl hx)
  | rom => exact hrom (.inr hx)
  | cell c => exact hcell c hx
  | ifReg => simp only [hif hx]
  | ieReg => exact hie hx
  | _ => rfl

theorem busValue_memWrite_of_apart (io clock : Byte) (hap : Apart a x s) :
    busValue io clock x (memWrite a v s) = busValue io clock x s := by
  refine busValue_congr io clock (target_memWrite_of_apart v hap) (memWrite_bus_boot a v s) (fun hx => ?_)
    (fun c hx => ?_) (fun hx => memWrite_irq_ifr v (target_ne_of_apart (.inl rfl) hap hx))
    (fun hx => memWrite_irq_ie v (target_ne_of_apart (.inr rfl) hap hx))
  · exact Cartridge.readRom_congr x (memWrite_cart_rom a v s) (memWrite_cart_romLen a v s)
      (memWrite_cart_romBanks a v s) (memWrite_mapper_of_romShown v hap hx)
  · refine readCell_memWrite v fun d ha e => ?_
    exact ((apart_of_other_iff (by rw [ha]; nofun) (by rw [ha]; nofun)).mp hap).2 d ha (e ▸ hx)

end

/-- Settles O11: `busValue_memWrite_of_apart`, from what the address reaches before and after the store. -/
theorem storeLeavesOtherAddresses : Obligations.StoreLeavesOtherAddresses :=
  fun io clock _ _ v _ hap => busValue_memWrite_of_apart v io clock hap

end Sys2Proof.Machine
end

section
/-!
PROOFS, the stack (O23). A store, a read and what they give do not look at SP, so the byte-wise push and pop are
the stores and reads at SP - 1, SP - 2, SP and SP + 1.
-/

namespace Sys2Proof.Machine

open Sys2Proof.Statements

/-! ### Stores and reads beside a write of SP -/

theorem memWrite_setSp (a : Word) (v : Byte) (s : State) (sp : Word) :
    memWrite a v (s.setSp sp) = (memWrite a v s).setSp sp := by
  have ht : target a (s.setSp sp) = target a s := rfl
  unfold memWrite
  rw [ht]
  cases target a s with
  | cell c => cases c <;> rfl
  | unmapReg => dsimp only; split <;> rfl
  | _ => rfl

theorem afterRead_setSp (a : Word) (s : State) (sp : Word) :
    afterRead a (s.setSp sp) = (afterRead a s).setSp sp := by
  rw [afterRead_eq_recorded, afterRead_eq_recorded]
  rfl

@[simp] theorem State.setSp_setSp (s : State) (x y : Word) : (s.setSp x).setSp y = s.setSp y := rfl

/-! ### Push and pop -/

theorem push8_eq (v : Byte) (s : State) :
    push8 v s = (memWrite (s.regs.sp - 1) v s).setSp (s.regs.sp - 1) :=
  memWrite_setSp _ v s _

theorem push16_eq_pushed (v : Word) (s : State) : push16 v s = pushed v s := by
  have hsp : s.regs.sp - 1 - 1 = s.regs.sp - 2 := BitVec.sub_sub ..
  rw [push16, push8_eq (loByte v), push8_eq (hiByte v), State.setSp_regs_sp, hsp, memWrite_setSp,
    State.setSp_setSp, ← hi_eq_hiByte, ← lo_eq_loByte]
  rfl

theorem pop8_eq (s : State) : pop8 s = (readValue s.regs.sp s, (afterRead s.regs.sp s).setSp (s.regs.sp + 1)) :=
  rfl

theorem pop16_eq_popped (s : State) : pop16 s = (popped s, afterPop s) := by
  have hsp : s.regs.sp + 1 + 1 = s.regs.sp + 2 := BitVec.add_assoc ..
  rw [pop16, pop8_eq s, pop8_eq, State.setSp_regs_sp, hsp, afterRead_setSp, State.setSp_setSp]
  rfl

/-! ### A pop after a push -/

/-- The low thirteen bits of the addresses from which a cell of a RAM array of the bus is reached; WRAM and its
echo lie 0x2000 apart (R62, R69). -/
def CellId.addressLow (c : CellId) : Nat :=
  match c with
  | .vram i | .wram i | .cartRam i => i
  | .oam i => 0x1E00 + i
  | .hram i => 0x1F80 + i

theorem ReachesBusCell.mod_eq {a : Word} {c : CellId} (h : ReachesBusCell a c) :
    a.toNat % 0x2000 = c.addressLow := by
  obtain ⟨hc, ht⟩ := h
  have hr := region_holds a
  have hcell := ht State.reset
  unfold target at hcell
  generalize region a = r at hr hcell
  cases r
  case cartRam =>
    rcases cartRamTarget_cases (State.reset.cart.ramTarget a) with e | ⟨i, -, e⟩ | ⟨sel, -, e⟩
    · cases e.symm.trans hcell
    · cases e.symm.trans hcell
      exact absurd rfl (hc i)
    · cases e.symm.trans hcell
  all_goals
    cases hcell
  all_goals
    simp only [Region.holds] at hr
    simp only [CellId.addressLow]
    omega

/-- Addresses of plain RAM next to each other reach different cells, even across the echo. -/
theorem ReachesBusCell.ne_of_adjacent {a b : Word} {c d : CellId} (hc : ReachesBusCell a c)
    (hd : ReachesBusCell b d) (hab : b.toNat + 1 = a.toNat) : c ≠ d := by
  rintro rfl
  have ha := hc.mod_eq
  have hb := hd.mod_eq
  omega

theorem hi_append_lo (v : Word) : hi v ++ lo v = v := by
  rw [hi_eq_hiByte, lo_eq_loByte]
  exact wordOf_hiByte_loByte v

theorem afterRead_of_plainRam {a : Word} (h : PlainRam a) (s : State) : afterRead a s = s := by
  obtain ⟨c, hc⟩ := plainRam_reachesBusCell h
  exact congrArg Prod.snd (memRead_of_cell (hc.2 s))

/-- In plain RAM both bytes of a push can be read back. -/
theorem readValue_pushed {v : Word} {s : State} (hwf : s.memWf = true) (h1 : PlainRam (s.regs.sp - 1))
    (h2 : PlainRam (s.regs.sp - 2)) :
    readValue (s.regs.sp - 1) (pushed v s) = hi v ∧ readValue (s.regs.sp - 2) (pushed v s) = lo v := by
  obtain ⟨c, hc⟩ := plainRam_reachesBusCell h1
  obtain ⟨d, hd⟩ := plainRam_reachesBusCell h2
  have hab : (s.regs.sp - 2).toNat + 1 = (s.regs.sp - 1).toNat := by
    unfold PlainRam at h1
    bv_omega
  have hne : ∀ d', target (s.regs.sp - 2) (memWrite (s.regs.sp - 1) (hi v) s) = .cell d' → c ≠ d' :=
    fun d' h => Target.cell.inj ((hd.2 _).symm.trans h) ▸ hc.ne_of_adjacent hd hab
  constructor
  · calc readValue (s.regs.sp - 1) (pushed v s)
        = readCell c (pushed v s) := readValue_of_cell (hc.2 _)
      _ = readCell c (memWrite (s.regs.sp - 1) (hi v) s) := readCell_memWrite (lo v) hne
      _ = readValue (s.regs.sp - 1) (memWrite (s.regs.sp - 1) (hi v) s) := (readValue_of_cell (hc.2 _)).symm
      _ = hi v := readValue_memWrite_same (hi v) hwf hc hc
  · exact readValue_memWrite_same (lo v) (State.memWf_memWrite s _ _ hwf) hd hd

/-- Settles O23: `readValue_pushed` gives the two bytes of the word back. -/
theorem pushThenPop : Obligations.PushThenPop := by
  intro v s
  refine ⟨push16_eq_pushed v s, pop16_eq_popped s, fun hwf h1 h2 => ?_⟩
  obtain ⟨hhi, hlo⟩ := readValue_pushed (v := v) hwf h1 h2
  have hword : readValue (s.regs.sp - 1) (pushed v s) ++ readValue (s.regs.sp - 2) (pushed v s) = v := by
    rw [hhi, hlo, hi_append_lo]
  refine ⟨hword, ?_⟩
  have hsp : (pushed v s).regs.sp = s.regs.sp - 2 := rfl
  have hsp1 : s.regs.sp - 2 + 1 = s.regs.sp - 1 := by bv_omega
  have hsp2 : s.regs.sp - 2 + 2 = s.regs.sp := BitVec.sub_add_cancel ..
  rw [push16_eq_pushed, pop16_eq_popped, popped, afterPop, hsp, hsp1, hsp2, afterRead_of_plainRam h2,
    afterRead_of_plainRam h1, hword]

end Sys2Proof.Machine
end

section
/-!
PROOFS, the memory frame of an instruction (O12). `StoresOnlyAt` says that a state comes from another by stores at
the listed addresses and by what no read of memory looks at; it composes, so each shared operation is a chain of
its reads, stores and register writes.
-/

namespace Sys2Proof.Machine

open Sys2Proof.Statements

/-! ### Stores at a list of addresses -/

/-- An address apart from all the stored ones reads as before, and is apart from the same addresses as before. -/
def StoresOnlyAt (as : List Word) (s t : State) : Prop :=
  ∀ x, (∀ a ∈ as, Apart a x s) →
    (∀ io clock, busValue io clock x t = busValue io clock x s) ∧ ∀ b, Apart b x s → Apart b x t

section
variable {as bs : List Word} {s t u : State}

theorem SameMemory.storesOnlyAt (h : SameMemory s t) : StoresOnlyAt as s t :=
  fun x _ => ⟨fun io clock => h.busValue_eq io clock x, fun _ hb => h.apart hb⟩

theorem StoresOnlyAt.memWrite (a : Word) (v : Byte) (s : State) : StoresOnlyAt [a] s (memWrite a v s) := by
  intro x hap
  have ha := hap a (List.mem_singleton.mpr rfl)
  exact ⟨fun io clock => busValue_memWrite_of_apart v io clock ha, fun b hb => apart_memWrite v ha hb⟩

theorem StoresOnlyAt.mono (h : StoresOnlyAt as s t) (hsub : as ⊆ bs) : StoresOnlyAt bs s t :=
  fun x hap => h x fun a ha => hap a (hsub ha)

theorem StoresOnlyAt.trans (h : StoresOnlyAt as s t) (k : StoresOnlyAt bs t u) :
    StoresOnlyAt (as ++ bs) s u := by
  intro x hap
  rw [List.forall_mem_append] at hap
  obtain ⟨hval, hkeep⟩ := h x hap.1
  obtain ⟨kval, kkeep⟩ := k x fun b hb => hkeep b (hap.2 b hb)
  exact ⟨fun io clock => (kval io clock).trans (hval io clock), fun b hb => kkeep b (hkeep b hb)⟩

theorem StoresOnlyAt.then_same (h : StoresOnlyAt as s t) (k : SameMemory t u) : StoresOnlyAt as s u := by
  have hu := h.trans (k.storesOnlyAt (as := []))
  rwa [List.append_nil] at hu

theorem SameMemory.then_stores (h : SameMemory s t) (k : StoresOnlyAt as t u) : StoresOnlyAt as s u :=
  (h.storesOnlyAt (as := [])).trans k

end

/-! ### Operands and the stack -/

theorem SameMemory.setPc (s : State) (pc : Word) : SameMemory s (s.setPc pc) := .of_units rfl rfl rfl

theorem SameMemory.setSp (s : State) (sp : Word) : SameMemory s (s.setSp sp) := .of_units rfl rfl rfl

theorem SameMemory.setR (s : State) (r : R8) (v : Byte) : SameMemory s (s.setR r v) := .of_units rfl rfl rfl

theorem SameMemory.set16 (s : State) (x : Reg16) (v : Word) : SameMemory s (s.set16 x v) :=
  .of_units rfl rfl rfl

theorem SameMemory.setFlags (s : State) (fl : Flags) : SameMemory s (s.setFlags fl) := .of_units rfl rfl rfl

theorem SameMemory.readRm (m : Rm) (s : State) : SameMemory s (readRm m s).2 := by
  cases m with
  | reg r => exact .refl s
  | atHL => exact .afterRead _ s

theorem SameMemory.pop16 (s : State) : SameMemory s (pop16 s).2 := by
  rw [pop16_eq_popped]
  exact ((SameMemory.afterRead _ s).trans (.afterRead _ _)).trans (.setSp _ _)

/-- The address an operand of table `r` is written to, if it is one. -/
def operandAddresses (m : Rm) (s : State) : List Word :=
  match m with
  | .reg _ => []
  | .atHL => [hl s]

/-- Reading an operand and writing it stores at its address (R203, R278, R280, R326–R346). -/
theorem StoresOnlyAt.modify (m : Rm) (v : Byte) (s : State) :
    StoresOnlyAt (operandAddresses m s) s (writeRm m v (Machine.readRm m s).2) := by
  cases m with
  | reg r => exact (SameMemory.setR s r v).storesOnlyAt
  | atHL =>
    have hhl : (afterRead s.hl s).hl = hl s := by rw [State.hl, afterRead_regs]; rfl
    have hw : writeRm .atHL v (Machine.readRm .atHL s).2 = Machine.memWrite (hl s) v (afterRead s.hl s) :=
      congrArg (Machine.memWrite · v (afterRead s.hl s)) hhl
    rw [hw]
    exact (SameMemory.afterRead s.hl s).then_stores (.memWrite (hl s) v _)

theorem StoresOnlyAt.push16 (v : Word) (s : State) :
    StoresOnlyAt [s.regs.sp - 1, s.regs.sp - 2] s (push16 v s) := by
  rw [push16_eq_pushed]
  exact ((StoresOnlyAt.memWrite _ _ s).trans (.memWrite _ _ _)).then_same (.setSp _ _)

/-! ### Results -/

/-- The same of an outcome that is a next state. -/
def ResultStoresAt (as : List Word) (s : State) (r : Result) : Prop := ∀ t, r = .next t → StoresOnlyAt as s t

section
variable {as bs : List Word} {s t : State} {r : Result}

theorem ResultStoresAt.mono (h : ResultStoresAt as s r) (hsub : as ⊆ bs) : ResultStoresAt bs s r :=
  fun t ht => (h t ht).mono hsub

theorem StoresOnlyAt.finish (h : StoresOnlyAt as s t) (n : Nat) : ResultStoresAt as s (finish n t) := by
  rintro _ ⟨⟩
  exact h.then_same (.of_units rfl rfl rfl)

theorem SameMemory.finish (h : SameMemory s t) (n : Nat) : ResultStoresAt as s (finish n t) :=
  h.storesOnlyAt.finish n

/-- An operation on registers, flags and control state alone stores nothing. -/
theorem resultStoresAt_of_units (hb : t.bus = s.bus) (hc : t.cart = s.cart) (hi : t.irq = s.irq) :
    ResultStoresAt as s (.next t) := by
  rintro _ ⟨⟩
  exact (SameMemory.of_units hb hc hi).storesOnlyAt

end

/-! ### The shared operations -/

section
variable {as : List Word} (s : State)

theorem loadRegAtHL_stores (dst : R8) : ResultStoresAt as s (loadRegAtHL dst s) :=
  ((SameMemory.afterRead _ s).trans (.setR _ _ _)).finish _

theorem loadA_stores (cycles : Nat) (a : Word) : ResultStoresAt as s (loadA cycles a s) :=
  ((SameMemory.afterRead _ s).trans (.setR _ _ _)).finish _

theorem loadAStepHL_stores (step : Word) : ResultStoresAt as s (loadAStepHL step s) :=
  (((SameMemory.afterRead _ s).trans (.setR _ _ _)).trans (.set16 _ _ _)).finish _

theorem storeA_stores (cycles : Nat) (a : Word) : ResultStoresAt [a] s (storeA cycles a s) :=
  (StoresOnlyAt.memWrite _ _ s).finish _

theorem storeAStepHL_stores (step : Word) : ResultStoresAt [hl s] s (storeAStepHL step s) :=
  ((StoresOnlyAt.memWrite _ _ s).then_same (.set16 _ _ _)).finish _

theorem popPair_stores (p : Rp2) : ResultStoresAt as s (popPair p s) :=
  ((SameMemory.pop16 s).trans (.set16 _ _ _)).finish _

theorem aluOperand_stores (op : AluOp) (m : Rm) : ResultStoresAt as s (aluOperand op m s) :=
  (((SameMemory.readRm m s).trans (.setR _ _ _)).trans (.setFlags _ _)).finish _

theorem bitOperand_stores (b : Fin 8) (m : Rm) : ResultStoresAt as s (bitOperand b m s) :=
  ((SameMemory.readRm m s).trans (.setFlags _ _)).finish _

theorem incOperand_stores (m : Rm) : ResultStoresAt (operandAddresses m s) s (incOperand m s) :=
  ((StoresOnlyAt.modify m _ s).then_same (.setFlags _ _)).finish _

theorem decOperand_stores (m : Rm) : ResultStoresAt (operandAddresses m s) s (decOperand m s) :=
  ((StoresOnlyAt.modify m _ s).then_same (.setFlags _ _)).finish _

theorem rotOperand_stores (k : RotOp) (m : Rm) : ResultStoresAt (operandAddresses m s) s (rotOperand k m s) :=
  ((StoresOnlyAt.modify m _ s).then_same (.setFlags _ _)).finish _

theorem resOperand_stores (b : Fin 8) (m : Rm) : ResultStoresAt (operandAddresses m s) s (resOperand b m s) :=
  (StoresOnlyAt.modify m _ s).finish _

theorem setOperand_stores (b : Fin 8) (m : Rm) : ResultStoresAt (operandAddresses m s) s (setOperand b m s) :=
  (StoresOnlyAt.modify m _ s).finish _

theorem callTo_stores (nn : Word) : StoresOnlyAt [s.regs.sp - 1, s.regs.sp - 2] s (callTo nn s) :=
  (StoresOnlyAt.push16 _ s).then_same (.setPc _ _)

theorem returnTo_sameMemory : SameMemory s (returnTo s) :=
  (SameMemory.pop16 s).trans (.setPc _ _)

theorem returnFromInterrupt_sameMemory : SameMemory s (returnFromInterrupt s) :=
  (returnTo_sameMemory s).trans (.of_units (t := { returnTo s with imeSched := true }) rfl rfl rfl)

theorem jumpIf_stores (k : Cond) (nn : Word) : ResultStoresAt as s (jumpIf k nn s) := by
  unfold jumpIf
  split <;> exact resultStoresAt_of_units rfl rfl rfl

theorem jumpRelativeIf_stores (k : Cond) (e : Byte) : ResultStoresAt as s (jumpRelativeIf k e s) := by
  unfold jumpRelativeIf
  split <;> exact resultStoresAt_of_units rfl rfl rfl

theorem callIf_stores (k : Cond) (nn : Word) :
    ResultStoresAt (if condHolds k s.regs.flags then [s.regs.sp - 1, s.regs.sp - 2] else []) s
      (callIf k nn s) := by
  unfold callIf
  split
  · exact (callTo_stores s nn).finish _
  · exact (SameMemory.refl s).finish _

theorem returnIf_stores (k : Cond) : ResultStoresAt as s (returnIf k s) := by
  unfold returnIf
  split
  · exact (returnTo_sameMemory s).finish _
  · exact (SameMemory.refl s).finish _

end

/-! ### The CB escape -/

theorem tableR_atHL {op : Byte} (h : tableR (fieldZ op) = .atHL) : op.toNat % 8 = 6 := by
  revert op
  decide

theorem fieldX_toNat (op : Byte) : (fieldX op).toNat = op.toNat / 64 := by
  revert op
  decide

/-- The CB entry of a second byte stores at its operand, but for BIT. -/
theorem execCbEntry_stores_operand {as : List Word} (op : Byte) (s : State)
    (h : (fieldX op).toNat ≠ 1 → operandAddresses (tableR (fieldZ op)) s ⊆ as) :
    ResultStoresAt as s (execCbEntry op s) := by
  unfold execCbEntry
  split
  · exact (rotOperand_stores s _ _).mono (h (by omega))
  · exact bitOperand_stores s _ _
  · exact (resOperand_stores s _ _).mono (h (by omega))
  · rename_i hbit _
    exact (setOperand_stores s _ _).mono (h hbit)

/-- The CB entry of a second byte stores at HL, if its operand is `(HL)` and it is no BIT (R398). -/
theorem execCbEntry_stores (op : Byte) (s : State) :
    ResultStoresAt (if op.toNat % 8 = 6 ∧ op.toNat / 64 ≠ 1 then [hl s] else []) s (execCbEntry op s) := by
  refine execCbEntry_stores_operand op s fun hx => ?_
  cases hm : tableR (fieldZ op) with
  | reg r => exact List.nil_subset _
  | atHL =>
    rw [if_pos ⟨tableR_atHL hm, fieldX_toNat op ▸ hx⟩]
    exact List.Subset.refl _

/-! ### Every instruction -/

section
variable (s : State)

theorem storedAddresses_inc (m : Rm) : storedAddresses (Instr.inc m) s = operandAddresses m s := by
  rcases m with ⟨⟨⟩⟩ | _ <;> rfl
theorem storedAddresses_dec (m : Rm) : storedAddresses (Instr.dec m) s = operandAddresses m s := by
  rcases m with ⟨⟨⟩⟩ | _ <;> rfl
theorem storedAddresses_rot (k : RotOp) (m : Rm) :
    storedAddresses (Instr.rot k m) s = operandAddresses m s := by
  cases k <;> (rcases m with ⟨⟨⟩⟩ | _) <;> rfl
theorem storedAddresses_res (b : Fin 8) (m : Rm) :
    storedAddresses (Instr.res b m) s = operandAddresses m s := by
  fin_cases b <;> (rcases m with ⟨⟨⟩⟩ | _) <;> rfl
theorem storedAddresses_set (b : Fin 8) (m : Rm) :
    storedAddresses (Instr.set b m) s = operandAddresses m s := by
  fin_cases b <;> (rcases m with ⟨⟨⟩⟩ | _) <;> rfl
theorem storedAddresses_ldToHL (src : R8) : storedAddresses (Instr.ld .atHL (.reg src)) s = [hl s] := by
  cases src <;> rfl
theorem storedAddresses_push (p : Rp2) :
    storedAddresses (Instr.push p) s = [s.regs.sp - 1, s.regs.sp - 2] := by
  cases p <;> rfl
theorem storedAddresses_rst (y : Fin 8) :
    storedAddresses (Instr.rst y) s = [s.regs.sp - 1, s.regs.sp - 2] := by
  fin_cases y <;> rfl
theorem storedAddresses_callCond (k : Cond) (nn : Word) :
    storedAddresses (Instr.callCond k nn) s =
      if condHolds k s.regs.flags then [s.regs.sp - 1, s.regs.sp - 2] else [] := by
  have hz : s.regs.flags.z = zf s := rfl
  have hc : s.regs.flags.c = cf s := rfl
  cases k with
  | nz =>
    rw [condHolds, hz]
    show (if zf s = false then _ else _) = _
    cases zf s <;> rfl
  | z => rfl
  | nc =>
    rw [condHolds, hc]
    show (if cf s = false then _ else _) = _
    cases cf s <;> rfl
  | c => rfl

end

/-- Every instruction stores at its `storedAddresses` only. -/
theorem exec_stores (i : Instr) (s : State) : ResultStoresAt (storedAddresses i s) s (exec i s) := by
  cases i.group
  case ld => rw [exec_ld]; exact resultStoresAt_of_units rfl rfl rfl
  case ldFromHL => rw [exec_ldFromHL]; exact loadRegAtHL_stores s _
  case ldToHL =>
    rw [exec_ldToHL, storedAddresses_ldToHL]
    exact (StoresOnlyAt.memWrite _ _ s).finish _
  case ldImm => rw [exec_ldImm]; exact resultStoresAt_of_units rfl rfl rfl
  case inc => rw [exec_inc, storedAddresses_inc]; exact incOperand_stores s _
  case dec => rw [exec_dec, storedAddresses_dec]; exact decOperand_stores s _
  case alu => rw [exec_alu]; exact aluOperand_stores s _ _
  case aluImm => rw [exec_aluImm]; exact resultStoresAt_of_units rfl rfl rfl
  case ldPair => rw [exec_ldPair]; exact resultStoresAt_of_units rfl rfl rfl
  case addHL => rw [exec_addHL]; exact resultStoresAt_of_units rfl rfl rfl
  case incPair => rw [exec_incPair]; exact resultStoresAt_of_units rfl rfl rfl
  case decPair => rw [exec_decPair]; exact resultStoresAt_of_units rfl rfl rfl
  case pop => rw [exec_pop]; exact popPair_stores s _
  case push => rw [exec_push, storedAddresses_push]; exact (StoresOnlyAt.push16 _ s).finish _
  case jrCond => rw [exec_jrCond]; exact jumpRelativeIf_stores s _ _
  case jpCond => rw [exec_jpCond]; exact jumpIf_stores s _ _
  case callCond => rw [exec_callCond, storedAddresses_callCond]; exact callIf_stores s _ _
  case retCond => rw [exec_retCond]; exact returnIf_stores s _
  case rst y =>
    rw [exec_rst, storedAddresses_rst]
    exact (callTo_stores s (8 * BitVec.ofNat 16 y.val)).finish _
  case rot => rw [exec_rot, storedAddresses_rot]; exact rotOperand_stores s _ _
  case bit => rw [exec_bit]; exact bitOperand_stores s _ _
  case res => rw [exec_res, storedAddresses_res]; exact resOperand_stores s _ _
  case set => rw [exec_set, storedAddresses_set]; exact setOperand_stores s _ _
  case ld_atBC_A | ld_atDE_A | ld_atNn_A | ld_atC_A | ldh_atN_A => exact storeA_stores s _ _
  case ld_atHLi_A | ld_atHLd_A => exact storeAStepHL_stores s _
  case ld_atHL_n => exact (StoresOnlyAt.memWrite _ _ s).finish _
  case ld_atNn_SP => exact ((StoresOnlyAt.memWrite _ _ s).trans (.memWrite _ _ _)).finish _
  case call_nn nn => exact (callTo_stores s nn).finish _
  case prefixCb =>
    have hhl : hl (fetch8 s).2 = hl s := by simp [hl]
    have hfetch : SameMemory s (fetch8 s).2 := (SameMemory.afterRead _ s).trans (.setPc _ _)
    have h := execCbEntry_stores (fetch8 s).1 (fetch8 s).2
    rw [hhl] at h
    exact fun t ht => hfetch.then_stores (h t ht)
  case ld_A_atBC | ld_A_atDE | ld_A_atNn | ld_A_atC | ldh_A_atN => exact loadA_stores s _ _
  case ld_A_atHLi | ld_A_atHLd => exact loadAStepHL_stores s _
  case ret => exact (returnTo_sameMemory s).finish _
  case reti => exact (returnFromInterrupt_sameMemory s).finish _
  all_goals exact resultStoresAt_of_units rfl rfl rfl

/-- Settles O12: `exec_stores`. -/
theorem instructionLeavesOtherAddresses : Obligations.InstructionLeavesOtherAddresses :=
  fun io clock i s t x h hap => (exec_stores i s t h x hap).1 io clock

end Sys2Proof.Machine
end

section
/-!
PROOFS, the decoder against the encoder. `decode_encode_append` reads back the encoding of every instruction, group by
group (O24, O25); `encode_decodeBytes` writes back the bytes of every catalog entry, column by column of the two
opcode maps (O26).
-/

namespace Sys2Proof

open Sys2Proof.Machine Sys2Proof.Statements

/-! ### Decoding an encoding -/

theorem decode_escape (b : Byte) (rest : List Byte) : decode (0xCB :: b :: rest) = .ok (decodeCb b, rest) :=
  decode_two b rest rfl

/-- The immediate word of a three-byte entry, low byte first (R169). -/
theorem decode_three_word {op : Byte} {i : Word → Instr} (nn : Word) (rest : List Byte)
    (h : decodeMain op = .three i) : decode (op :: loByte nn :: hiByte nn :: rest) = .ok (i nn, rest) := by
  rw [decode_three _ _ rest h, wordOf_hiByte_loByte]

/-- The entry of the first byte of an encoding is the instruction's own: by group, over the operands of the
operand tables (R162–R167); the immediates keep their values. -/
theorem decode_encode_append {i : Instr} (hi : i ≠ .prefixCb) (rest : List Byte) :
    decode (encode i ++ rest) = .ok (i, rest) := by
  cases i.group
  case prefixCb => exact absurd rfl hi
  case ld dst src => cases dst <;> cases src <;> exact decode_one rest rfl
  case ldFromHL dst => cases dst <;> exact decode_one rest rfl
  case ldToHL src => cases src <;> exact decode_one rest rfl
  case ldImm r n => cases r <;> exact decode_two n rest rfl
  case inc m => rcases m with ⟨⟨⟩⟩ | _ <;> exact decode_one rest rfl
  case dec m => rcases m with ⟨⟨⟩⟩ | _ <;> exact decode_one rest rfl
  case alu op m => cases op <;> rcases m with ⟨⟨⟩⟩ | _ <;> exact decode_one rest rfl
  case aluImm op n => cases op <;> exact decode_two n rest rfl
  case ldPair p nn => cases p <;> exact decode_three_word nn rest rfl
  case addHL p => cases p <;> exact decode_one rest rfl
  case incPair p => cases p <;> exact decode_one rest rfl
  case decPair p => cases p <;> exact decode_one rest rfl
  case pop p => cases p <;> exact decode_one rest rfl
  case push p => cases p <;> exact decode_one rest rfl
  case jrCond k e => cases k <;> exact decode_two e rest rfl
  case jpCond k nn => cases k <;> exact decode_three_word nn rest rfl
  case callCond k nn => cases k <;> exact decode_three_word nn rest rfl
  case retCond k => cases k <;> exact decode_one rest rfl
  case rst y => fin_cases y <;> exact decode_one rest rfl
  case rot k m => cases k <;> rcases m with ⟨⟨⟩⟩ | _ <;> exact decode_escape _ rest
  case bit b m => fin_cases b <;> rcases m with ⟨⟨⟩⟩ | _ <;> exact decode_escape _ rest
  case res b m => fin_cases b <;> rcases m with ⟨⟨⟩⟩ | _ <;> exact decode_escape _ rest
  case set b m => fin_cases b <;> rcases m with ⟨⟨⟩⟩ | _ <;> exact decode_escape _ rest
  case stop n | jr_e n | ld_atHL_n n | ldh_atN_A n | ldh_A_atN n | add_SP_e n | ld_HL_SPe n =>
    exact decode_two n rest rfl
  case ld_atNn_SP nn | jp_nn nn | call_nn nn | ld_atNn_A nn | ld_A_atNn nn =>
    exact decode_three_word nn rest rfl
  all_goals exact decode_one rest rfl

/-- Settles O25: `decode_encode_append`, since the escape alone is what `WellFormed` leaves out. -/
theorem decodeOfEncode : Obligations.DecodeOfEncode :=
  fun i rest h => decode_encode_append ((wellFormed_iff i).mp h) rest

/-- Settles O24: the decoder computes each word. -/
theorem decodesManualWords : Obligations.DecodesManualWords := by
  unfold Obligations.DecodesManualWords
  and_intros <;> rfl

/-! ### Encoding a catalog entry -/

/-- The instruction of an entry, given the immediate word after the first byte. -/
def Entry.withOperand : Entry → Word → Instr
  | .one i, _ => i
  | .two i, nn => i (loByte nn)
  | .three i, nn => i nn

theorem Entry.instr_eq_withOperand (e : Entry) (b1 b2 : Byte) : e.instr b1 b2 = e.withOperand (wordOf b2 b1) := by
  cases e <;> simp [Entry.instr, Entry.withOperand]

/-- The encodings of an entry are `op` and the immediate bytes the entry asks for. -/
def Entry.EncodesFrom (op : Byte) (e : Entry) : Prop :=
  ∀ nn, encode (e.withOperand nn) = [op, loByte nn, hiByte nn].take e.length

/-- The byte with fields `x`, `y`, `z` (R161). -/
def opcode (x y z : Nat) : Byte := BitVec.ofNat 8 (64 * x + 8 * y + z)

theorem exists_opcode (op : Byte) : ∃ x < 4, ∃ y < 8, ∃ z < 8, op = opcode x y z := by
  have h := op.isLt
  refine ⟨op.toNat / 64, by omega, op.toNat / 8 % 8, by omega, op.toNat % 8, by omega, ?_⟩
  rw [opcode, show 64 * (op.toNat / 64) + 8 * (op.toNat / 8 % 8) + op.toNat % 8 = op.toNat by omega,
    BitVec.ofNat_toNat, BitVec.setWidth_eq]

theorem encode_decodeCb (b : Byte) : encode (decodeCb b) = [0xCB, b] := by
  revert b
  decide

/-- The two opcode maps agree slot by slot (R172, R173); the slot of the escape is the second map (R174, R175). -/
theorem decodeMain_encodesFrom (op : Byte) : (decodeMain op).EncodesFrom op := by
  obtain ⟨x, hx, y, hy, z, hz, rfl⟩ := exists_opcode op
  intro nn
  obtain hx3 | rfl : x < 3 ∨ x = 3 := by omega
  · interval_cases x <;> interval_cases y <;> interval_cases z <;> rfl
  · obtain hz3 | rfl | hz3 := Nat.lt_trichotomy z 3
    · interval_cases z <;> interval_cases y <;> rfl
    · obtain hy1 | rfl | hy1 := Nat.lt_trichotomy y 1
      · interval_cases y; rfl
      · exact encode_decodeCb (loByte nn)
      · interval_cases y <;> rfl
    · interval_cases z <;> interval_cases y <;> rfl

/-- The instruction of any three bytes is encoded by their front, as long as the entry of the first byte (R180). -/
theorem encode_decodeBytes (op b1 b2 : Byte) :
    encode (decodeBytes op b1 b2) = [op, b1, b2].take (decodeMain op).length := by
  have h := decodeMain_encodesFrom op (wordOf b2 b1)
  rwa [← Entry.instr_eq_withOperand, loByte_wordOf, hiByte_wordOf] at h

/-! ### Decoding any three bytes (R180) -/

theorem Entry.length_bounds (e : Entry) : 1 ≤ e.length ∧ e.length ≤ 3 := by
  cases e <;> simp [Entry.length]

theorem encode_decodeBytes_length (op b1 b2 : Byte) :
    (encode (decodeBytes op b1 b2)).length = (decodeMain op).length := by
  rw [encode_decodeBytes, List.length_take]
  exact Nat.min_eq_left (decodeMain op).length_bounds.2

theorem decode_of_three_bytes (op b1 b2 : Byte) (rest : List Byte) :
    decode (op :: b1 :: b2 :: rest) =
      .ok (decodeBytes op b1 b2, (op :: b1 :: b2 :: rest).drop (decodeMain op).length) := by
  rw [decodeBytes]
  cases h : decodeMain op with
  | one i => exact decode_one _ h
  | two i => exact decode_two _ _ h
  | three i => exact decode_three _ _ _ h

/-- The encoding and the undecoded rest make up the bytes again. -/
theorem encode_append_drop (op b1 b2 : Byte) (rest : List Byte) :
    encode (decodeBytes op b1 b2) ++ (op :: b1 :: b2 :: rest).drop (decodeMain op).length =
      op :: b1 :: b2 :: rest := by
  rw [encode_decodeBytes]
  cases decodeMain op <;> rfl

/-- An instruction is one of an INVALID slot exactly when its first byte is the slot (R176). -/
theorem isInvalid_decodeBytes_iff (op b1 b2 : Byte) : IsInvalid (decodeBytes op b1 b2) ↔ op ∈ invalidSlots := by
  constructor
  · rintro ⟨slot, hslot, he⟩
    have hop : op = slot := by
      rw [encode_decodeBytes] at he
      cases hd : decodeMain op <;> rw [hd] at he <;> cases he
      rfl
    rwa [hop]
  · intro hop
    obtain ⟨i, hi, -⟩ := invalidSlot_entry op hop
    refine ⟨op, hop, ?_⟩
    rw [encode_decodeBytes, hi]
    rfl

/-- Settles O26: the decoder reads `decodeBytes` of the three bytes, whose encoding is their front. -/
theorem decodingIsTotalAndFaithful : Obligations.DecodingIsTotalAndFaithful := by
  refine ⟨fun op b1 b2 rest => ?_, fun op b1 b2 c1 c2 i j k l hi hj => ?_⟩
  · refine ⟨_, _, decode_of_three_bytes op b1 b2 rest, decodeBytes_wellFormed op b1 b2,
      encode_append_drop op b1 b2 rest, ?_, ?_, isInvalid_decodeBytes_iff op b1 b2⟩ <;>
      rw [encode_decodeBytes_length]
    · exact (decodeMain op).length_bounds.1
    · exact (decodeMain op).length_bounds.2
  · cases (decode_of_three_bytes op b1 b2 []).symm.trans hi
    cases (decode_of_three_bytes op c1 c2 []).symm.trans hj
    rw [encode_decodeBytes_length, encode_decodeBytes_length]

end Sys2Proof
end

section
/-!
PROOFS, the T-cycles of the catalog (R179). `exec_priced` says once, group by group, what the catalog charges and
that `exec` reports it; O57 follows.
-/

namespace Sys2Proof.Machine

open Sys2Proof.Statements

/-- The instruction answers a next state that reports `n` T-cycles. -/
def Reports (r : Result) (n : Nat) : Prop := ∃ t, r = .next t ∧ t.report = some (.ok n)

theorem Completes.reports {s : State} {r : Result} {n : Nat} (h : Completes s r n) : Reports r n := by
  obtain ⟨t, hnext, -, hreport⟩ := h
  exact ⟨t, hnext, hreport⟩

theorem finish_reports (n : Nat) (s : State) : Reports (finish n s) n := ⟨_, rfl, rfl⟩

theorem not_reports_raiseInvalidOpcode (op : OpcodeValue) (a : Word) (s : State) (n : Nat) :
    ¬ Reports (raiseInvalidOpcode op a s) n := by
  rintro ⟨t, ⟨⟩, hreport⟩
  cases hreport

/-- The cost fields of the catalog entry: the base cost, and the condition with the cost not taken. -/
def HasCosts (i : Instr) (cycles : Option Nat) (branch : Option (Cond × Nat)) : Prop :=
  (descriptor i).cycles = cycles ∧ (descriptor i).branch = branch

/-- The two-figure instructions with condition `k` (R179). -/
def IsConditional (i : Instr) (k : Cond) : Prop :=
  ∃ (e : Byte) (nn : Word), i = Instr.jrCond k e ∨ i = Instr.jpCond k nn ∨ i = Instr.callCond k nn ∨
    i = Instr.retCond k

/-- What the catalog charges for an instruction, and that executing it reports as much: one figure, two by its
condition, or none (R173, R179). -/
inductive Priced (i : Instr) : Prop where
  | fixed (n : Nat) (hc : HasCosts i (some n) none) (hr : ∀ s, Reports (exec i s) n)
  | conditional (k : Cond) (taken notTaken : Nat) (hi : IsConditional i k)
      (hc : HasCosts i (some taken) (some (k, notTaken)))
      (hr : ∀ s, Reports (exec i s) (if condHolds k s.regs.flags then taken else notTaken))
  | unpriced (hi : IsInvalid i ∨ i = .prefixCb) (hc : HasCosts i none none)

/-! ### The figures of the two-figure instructions -/

theorem hasCosts_jrCond (k : Cond) (e : Byte) : HasCosts (Instr.jrCond k e) (some 12) (some (k, 8)) := by
  cases k <;> exact ⟨rfl, rfl⟩

theorem hasCosts_jpCond (k : Cond) (nn : Word) : HasCosts (Instr.jpCond k nn) (some 16) (some (k, 12)) := by
  cases k <;> exact ⟨rfl, rfl⟩

theorem hasCosts_callCond (k : Cond) (nn : Word) : HasCosts (Instr.callCond k nn) (some 24) (some (k, 12)) := by
  cases k <;> exact ⟨rfl, rfl⟩

theorem hasCosts_retCond (k : Cond) : HasCosts (Instr.retCond k) (some 20) (some (k, 8)) := by
  cases k <;> exact ⟨rfl, rfl⟩

/-! ### Every instruction -/

/-- By group: the entries of a group charge one figure, which its shared operation reports. An irregular
instruction completes with its own figure. -/
theorem exec_priced (i : Instr) : Priced i := by
  cases i.group
  case ld dst src =>
    refine .fixed 4 ?_ fun s => exec_ld dst src s ▸ (loadReg_completes dst src s).reports
    cases dst <;> cases src <;> exact ⟨rfl, rfl⟩
  case ldFromHL dst =>
    refine .fixed 8 ?_ fun s => exec_ldFromHL dst s ▸ (loadRegAtHL_completes dst s).reports
    cases dst <;> exact ⟨rfl, rfl⟩
  case ldToHL src =>
    refine .fixed 8 ?_ fun s => exec_ldToHL src s ▸ (storeRegAtHL_completes src s).reports
    cases src <;> exact ⟨rfl, rfl⟩
  case ldImm r n =>
    refine .fixed 8 ?_ fun s => exec_ldImm r n s ▸ (loadRegImm_completes r n s).reports
    cases r <;> exact ⟨rfl, rfl⟩
  case inc m =>
    refine .fixed (formCycles m 4 12) ?_ fun s => exec_inc m s ▸ (incOperand_completes m s).reports
    rcases m with ⟨⟨⟩⟩ | _ <;> exact ⟨rfl, rfl⟩
  case dec m =>
    refine .fixed (formCycles m 4 12) ?_ fun s => exec_dec m s ▸ (decOperand_completes m s).reports
    rcases m with ⟨⟨⟩⟩ | _ <;> exact ⟨rfl, rfl⟩
  case alu op m =>
    refine .fixed (formCycles m 4 8) ?_ fun s => exec_alu op m s ▸ (aluOperand_completes op m s).reports
    cases op <;> rcases m with ⟨⟨⟩⟩ | _ <;> exact ⟨rfl, rfl⟩
  case aluImm op n =>
    refine .fixed 8 ?_ fun s => exec_aluImm op n s ▸ (aluImmediate_completes op n s).reports
    cases op <;> exact ⟨rfl, rfl⟩
  case ldPair p nn =>
    refine .fixed 12 ?_ fun s => exec_ldPair p nn s ▸ (loadPairImm_completes p nn s).reports
    cases p <;> exact ⟨rfl, rfl⟩
  case addHL p =>
    refine .fixed 8 ?_ fun s => exec_addHL p s ▸ (addPairToHL_completes p s).reports
    cases p <;> exact ⟨rfl, rfl⟩
  case incPair p =>
    refine .fixed 8 ?_ fun s => exec_incPair p s ▸ (incPair_completes p s).reports
    cases p <;> exact ⟨rfl, rfl⟩
  case decPair p =>
    refine .fixed 8 ?_ fun s => exec_decPair p s ▸ (decPair_completes p s).reports
    cases p <;> exact ⟨rfl, rfl⟩
  case pop p =>
    refine .fixed 12 ?_ fun s => exec_pop p s ▸ (popPair_completes p s).reports
    cases p <;> exact ⟨rfl, rfl⟩
  case push p =>
    refine .fixed 16 ?_ fun s => exec_push p s ▸ (pushPair_completes p s).reports
    cases p <;> exact ⟨rfl, rfl⟩
  case jrCond k e =>
    exact .conditional k 12 8 ⟨e, 0, .inl rfl⟩ (hasCosts_jrCond k e) fun s =>
      exec_jrCond k e s ▸ (jumpRelativeIf_completes k e s).reports
  case jpCond k nn =>
    exact .conditional k 16 12 ⟨0, nn, .inr (.inl rfl)⟩ (hasCosts_jpCond k nn) fun s =>
      exec_jpCond k nn s ▸ (jumpIf_completes k nn s).reports
  case callCond k nn =>
    exact .conditional k 24 12 ⟨0, nn, .inr (.inr (.inl rfl))⟩ (hasCosts_callCond k nn) fun s =>
      exec_callCond k nn s ▸ (callIf_completes k nn s).reports
  case retCond k =>
    exact .conditional k 20 8 ⟨0, 0, .inr (.inr (.inr rfl))⟩ (hasCosts_retCond k) fun s =>
      exec_retCond k s ▸ (returnIf_completes k s).reports
  case rst y =>
    refine .fixed 16 ?_ fun s => exec_rst y s ▸ (restart_completes y s).reports
    fin_cases y <;> exact ⟨rfl, rfl⟩
  case rot k m =>
    refine .fixed (formCycles m 8 16) ?_ fun s => exec_rot k m s ▸ (rotOperand_completes k m s).reports
    cases k <;> rcases m with ⟨⟨⟩⟩ | _ <;> exact ⟨rfl, rfl⟩
  case bit b m =>
    refine .fixed (formCycles m 8 12) ?_ fun s => exec_bit b m s ▸ (bitOperand_completes b m s).reports
    fin_cases b <;> rcases m with ⟨⟨⟩⟩ | _ <;> exact ⟨rfl, rfl⟩
  case res b m =>
    refine .fixed (formCycles m 8 16) ?_ fun s => exec_res b m s ▸ (resOperand_completes b m s).reports
    fin_cases b <;> rcases m with ⟨⟨⟩⟩ | _ <;> exact ⟨rfl, rfl⟩
  case set b m =>
    refine .fixed (formCycles m 8 16) ?_ fun s => exec_set b m s ▸ (setOperand_completes b m s).reports
    fin_cases b <;> rcases m with ⟨⟨⟩⟩ | _ <;> exact ⟨rfl, rfl⟩
  case prefixCb => exact .unpriced (.inr rfl) ⟨rfl, rfl⟩
  case invalid_D3 | invalid_DB | invalid_DD | invalid_E3 | invalid_E4 | invalid_EB | invalid_EC | invalid_ED
      | invalid_F4 | invalid_FC | invalid_FD =>
    exact .unpriced (.inl ⟨_, by decide, rfl⟩) ⟨rfl, rfl⟩
  all_goals exact .fixed _ ⟨rfl, rfl⟩ fun _ => finish_reports _ _

/-! ### What a descriptor charges -/

section
variable {i : Instr} {k : Cond} {n taken notTaken : Nat}

theorem HasCosts.costOf_fixed (h : HasCosts i (some n) none) (fl : Flags) :
    costOf (descriptor i) fl = some n := by
  obtain ⟨hc, hb⟩ := h
  simp [costOf, hc, hb]

theorem HasCosts.costOf_conditional (h : HasCosts i (some taken) (some (k, notTaken))) (fl : Flags) :
    costOf (descriptor i) fl = some (if condHolds k fl then taken else notTaken) := by
  obtain ⟨hc, hb⟩ := h
  simp only [costOf, hc, hb]
  split <;> rfl

theorem HasCosts.costOf_none (h : HasCosts i none none) (fl : Flags) : costOf (descriptor i) fl = none := by
  obtain ⟨hc, hb⟩ := h
  simp [costOf, hc, hb]

/-- An INVALID slot raises its fault, and the escape has no entry of its own: neither has a cost. -/
theorem not_hasCosts_some (hi : IsInvalid i ∨ i = .prefixCb) (hr : ∀ s, ∃ n, Reports (exec i s) n)
    {branch : Option (Cond × Nat)} : ¬ HasCosts i (some n) branch := by
  rintro ⟨hc, -⟩
  obtain ⟨op, hop, he⟩ | rfl := hi
  · obtain ⟨m, hm⟩ := hr State.reset
    rw [exec_invalidSlot State.reset hop he] at hm
    exact not_reports_raiseInvalidOpcode _ _ _ _ hm
  · cases hc

end

theorem exec_reports_cost {i : Instr} {s : State} {n : Nat} (h : costOf (descriptor i) s.regs.flags = some n) :
    Reports (exec i s) n := by
  cases exec_priced i with
  | fixed m hc hr =>
    cases (hc.costOf_fixed _).symm.trans h
    exact hr s
  | conditional k taken notTaken _ hc hr =>
    cases (hc.costOf_conditional _).symm.trans h
    exact hr s
  | unpriced _ hc => cases (hc.costOf_none _).symm.trans h

theorem costOf_eq_none_iff (i : Instr) (fl : Flags) :
    costOf (descriptor i) fl = none ↔ IsInvalid i ∨ i = .prefixCb := by
  cases exec_priced i with
  | fixed n hc hr =>
    rw [hc.costOf_fixed fl]
    exact ⟨nofun, fun hi => absurd hc (not_hasCosts_some hi fun s => ⟨n, hr s⟩)⟩
  | conditional k taken notTaken _ hc hr =>
    rw [hc.costOf_conditional fl]
    exact ⟨nofun, fun hi => absurd hc (not_hasCosts_some hi fun s => ⟨_, hr s⟩)⟩
  | unpriced hi hc => exact ⟨fun _ => hi, fun _ => hc.costOf_none fl⟩

theorem branch_isSome_iff (i : Instr) : (descriptor i).branch.isSome = true ↔ ∃ k, IsConditional i k := by
  constructor
  · intro h
    cases exec_priced i with
    | fixed _ hc _ => simp [hc.2] at h
    | conditional k _ _ hi _ _ => exact ⟨k, hi⟩
    | unpriced _ hc => simp [hc.2] at h
  · rintro ⟨k, e, nn, rfl | rfl | rfl | rfl⟩
    · rw [(hasCosts_jrCond k e).2, Option.isSome_some]
    · rw [(hasCosts_jpCond k nn).2, Option.isSome_some]
    · rw [(hasCosts_callCond k nn).2, Option.isSome_some]
    · rw [(hasCosts_retCond k).2, Option.isSome_some]

/-- `Laws.EncodedLength.Statement` for every instruction: the bytes of each encoding are counted (R160, R178). -/
theorem encode_length_eq_descriptor {i : Instr} (hi : i ≠ .prefixCb) :
    (encode i).length = (descriptor i).length := by
  cases i
  case prefixCb => exact absurd rfl hi
  all_goals rfl

/-- Settles O57: the figures reported are those of `exec_priced`. -/
theorem cyclesMatchTheCatalog : Obligations.CyclesMatchTheCatalog := by
  refine ⟨fun i s n h => exec_reports_cost h, costOf_eq_none_iff, branch_isSome_iff,
    fun i hi => encode_length_eq_descriptor hi, fun k e nn => ?_⟩
  obtain ⟨hjr, hjr'⟩ := hasCosts_jrCond k e
  obtain ⟨hjp, hjp'⟩ := hasCosts_jpCond k nn
  obtain ⟨hcall, hcall'⟩ := hasCosts_callCond k nn
  obtain ⟨hret, hret'⟩ := hasCosts_retCond k
  exact ⟨hjr, hjr', hjp, hjp', hcall, hcall', hret, hret'⟩

end Sys2Proof.Machine
end

section
/-!
PROOFS, the loads, the stores and the stack instructions (O27–O31). The statements' registers, pairs and encodings
are the model's; with that, each instruction is the shared operation that `exec` of its group runs.
-/

namespace Sys2Proof.Machine

open Sys2Proof.Statements

/-! ### Registers and pairs, as the statements write them -/

section
variable (s : State)

theorem State.getR_eq_reg (r : R8) : s.getR r = reg r s := by cases r <;> rfl

theorem State.setR_eq_withReg (r : R8) (v : Byte) : s.setR r v = withReg r v s := by cases r <;> rfl

theorem State.get16_pairOf2_eq_pair2 (p : Rp2) : s.regs.get16 (pairOf2 p) = pair2 p s := by cases p <;> rfl

theorem State.set16_pairOf_eq_withPair (p : Rp) (v : Word) : s.set16 (pairOf p) v = withPair p v s := by
  cases p <;> simp only [withPair, withHL, hi_eq_hiByte, lo_eq_loByte] <;> rfl

theorem State.set16_pairOf2_eq_withPair2 (p : Rp2) (v : Word) :
    s.set16 (pairOf2 p) v = withPair2 p v s := by
  cases p <;> simp only [withPair2, withHL, withAF, hi_eq_hiByte, lo_eq_loByte] <;> rfl

theorem State.set16_hl_eq_withHL (v : Word) : s.set16 .hl v = withHL v s := s.set16_pairOf_eq_withPair .hl v

end

/-! ### The steps of HL, modulo 2^16 (R215–R218) -/

theorem word_add_neg_one_eq (w : Word) : w + -1 = BitVec.ofNat 16 (w.toNat + 65535) := by bv_omega

theorem word_add_one_eq (w : Word) : w + 1 = BitVec.ofNat 16 (w.toNat + 1) := by bv_omega

/-! ### The encodings of the groups -/

theorem encode_ld (dst src : R8) :
    encode (Instr.ld (.reg dst) (.reg src)) = [0x40 + 8 * rCode dst + rCode src] := by
  cases dst <;> cases src <;> rfl

theorem encode_ldFromHL (dst : R8) : encode (Instr.ld (.reg dst) .atHL) = [0x46 + 8 * rCode dst] := by
  cases dst <;> rfl

theorem encode_ldToHL (src : R8) : encode (Instr.ld .atHL (.reg src)) = [0x70 + rCode src] := by
  cases src <;> rfl

theorem encode_ldImm (dst : R8) (n : Byte) : encode (Instr.ldImm (.reg dst) n) = [0x06 + 8 * rCode dst, n] := by
  cases dst <;> rfl

theorem encode_ldPair (p : Rp) (nn : Word) :
    encode (Instr.ldPair p nn) = [0x01 + 16 * rpCode p, lo nn, hi nn] := by
  rw [lo_eq_loByte, hi_eq_hiByte]
  cases p <;> rfl

theorem encode_push (p : Rp2) : encode (Instr.push p) = [0xC5 + 16 * rp2Code p] := by cases p <;> rfl

theorem encode_pop (p : Rp2) : encode (Instr.pop p) = [0xC1 + 16 * rp2Code p] := by cases p <;> rfl

/-! ### The shared operations -/

section
variable (s : State)

theorem loadReg_eq (dst src : R8) : loadReg dst src s = done 4 (withReg dst (reg src s) s) := by
  rw [loadReg, State.getR_eq_reg, State.setR_eq_withReg]
  rfl

theorem loadRegImm_eq (dst : R8) (n : Byte) : loadRegImm dst n s = done 8 (withReg dst n s) := by
  rw [loadRegImm, State.setR_eq_withReg]
  rfl

theorem loadPairImm_eq (p : Rp) (nn : Word) : loadPairImm p nn s = done 12 (withPair p nn s) := by
  rw [loadPairImm, State.set16_pairOf_eq_withPair]
  rfl

theorem loadRegAtHL_eq (dst : R8) :
    loadRegAtHL dst s = done 8 (withReg dst (readValue (hl s) s) (afterRead (hl s) s)) := by
  rw [loadRegAtHL, State.setR_eq_withReg]
  rfl

theorem loadA_eq (cycles : Nat) (a : Word) :
    loadA cycles a s = done cycles (withReg .a (readValue a s) (afterRead a s)) :=
  rfl

theorem storeA_eq (cycles : Nat) (a : Word) : storeA cycles a s = done cycles (memWrite a s.regs.a s) := rfl

theorem storeImmAtHL_eq (n : Byte) : storeImmAtHL n s = done 12 (memWrite (hl s) n s) := rfl

theorem memWrite16_eq (a v : Word) : memWrite16 a v s = memWrite (a + 1) (hi v) (memWrite a (lo v) s) := by
  rw [memWrite16, lo_eq_loByte, hi_eq_hiByte]

theorem storeRegAtHL_eq (src : R8) : storeRegAtHL src s = done 8 (memWrite (hl s) (reg src s) s) := by
  rw [storeRegAtHL, State.getR_eq_reg]
  rfl

theorem loadAStepHL_eq (step : Word) :
    loadAStepHL step s =
      done 8 (withHL (hl s + step) (withReg .a (readValue (hl s) s) (afterRead (hl s) s))) := by
  rw [loadAStepHL, State.set16_hl_eq_withHL]
  rfl

theorem storeAStepHL_eq (step : Word) :
    storeAStepHL step s = done 8 (withHL (hl s + step) (memWrite (hl s) s.regs.a s)) := by
  rw [storeAStepHL, State.set16_hl_eq_withHL]
  rfl

theorem pushPair_eq (p : Rp2) : pushPair p s = done 16 (pushed (pair2 p s) s) := by
  rw [pushPair, push16_eq_pushed, State.get16_pairOf2_eq_pair2]
  rfl

theorem popPair_eq (p : Rp2) : popPair p s = done 12 (withPair2 p (popped s) (afterPop s)) := by
  rw [popPair, pop16_eq_popped, State.set16_pairOf2_eq_withPair2]
  rfl

end

/-! ### The statements -/

/-- Settles O27: the three groups by their shared operations; LD SP,HL as it stands. -/
theorem registerLoads : Obligations.RegisterLoads := by
  intro dst src p n nn s
  rw [exec_ld, exec_ldImm, exec_ldPair]
  exact ⟨encode_ld dst src, loadReg_eq s dst src, encode_ldImm dst n, loadRegImm_eq s dst n,
    encode_ldPair p nn, loadPairImm_eq s p nn, rfl, rfl⟩

/-- Settles O28: `loadRegAtHL_eq`, and `loadA_eq` at the five addresses of A's loads. -/
theorem loadsFromMemory : Obligations.LoadsFromMemory := by
  intro dst n nn s
  rw [exec_ldFromHL, lo_eq_loByte, hi_eq_hiByte]
  exact ⟨encode_ldFromHL dst, loadRegAtHL_eq s dst, rfl, loadA_eq s 8 (bc s), rfl, loadA_eq s 8 (de s),
    rfl, loadA_eq s 16 nn, rfl, loadA_eq s 8 (highPage s.regs.c), rfl, loadA_eq s 12 (highPage n)⟩

/-- Settles O29: `storeRegAtHL_eq` and `storeImmAtHL_eq`, `storeA_eq` at the five addresses of A's stores, and
`memWrite16_eq`. -/
theorem storesToMemory : Obligations.StoresToMemory := by
  intro src n nn s
  rw [exec_ldToHL, exec_ld_atNn_SP, memWrite16_eq, lo_eq_loByte nn, hi_eq_hiByte nn]
  exact ⟨encode_ldToHL src, storeRegAtHL_eq s src, rfl, storeImmAtHL_eq s n, rfl, storeA_eq s 8 (bc s),
    rfl, storeA_eq s 8 (de s), rfl, storeA_eq s 16 nn, rfl, storeA_eq s 8 (highPage s.regs.c),
    rfl, storeA_eq s 12 (highPage n), rfl, rfl⟩

/-- Settles O30: the shared operations at the steps -1 and 1. -/
theorem loadsSteppingHL : Obligations.LoadsSteppingHL := by
  intro s
  dsimp only
  rw [← word_add_neg_one_eq, ← word_add_one_eq]
  exact ⟨rfl, loadAStepHL_eq s (-1), rfl, storeAStepHL_eq s (-1), rfl, loadAStepHL_eq s 1, rfl,
    storeAStepHL_eq s 1⟩

/-- Settles O31: `push16_eq_pushed` and `pop16_eq_popped`, with the pair as the statement writes it. -/
theorem pushAndPop : Obligations.PushAndPop := by
  intro p s
  rw [exec_push, exec_pop]
  exact ⟨encode_push p, pushPair_eq s p, encode_pop p, popPair_eq s p⟩

end Sys2Proof.Machine
end

section
/-!
PROOFS, the 8-bit arithmetic and logic (O32–O37). An operand of table `r` and a write of A with the flags are the
statements'; each operation of R250–R252, R277–R281 is then said once, its result and its four flags, as arithmetic
or bit by bit.
-/

namespace Sys2Proof.Machine

open Sys2Proof.Statements

/-! ### Operands, A and F, as the statements write them -/

section
variable (s : State)

theorem readRm_eq (m : Rm) : readRm m s = (operand m s, afterOperand m s) := by
  cases m with
  | reg r => rw [readRm, State.getR_eq_reg]; rfl
  | atHL => rfl

theorem writeRm_eq_withOperand (m : Rm) (v : Byte) : writeRm m v s = withOperand m v s := by
  cases m with
  | reg r => exact s.setR_eq_withReg r v
  | atHL => rfl

theorem formCycles_eq_byForm (m : Rm) (r atHL : Nat) : formCycles m r atHL = byForm m r atHL := by
  cases m <;> rfl

@[simp] theorem afterOperand_regs (m : Rm) : (afterOperand m s).regs = s.regs := by
  cases m with
  | reg r => rfl
  | atHL => exact afterRead_regs (hl s) s

theorem State.setFlags_eq_withF (fl : Flags) : s.setFlags fl = withF (fByte fl.z fl.n fl.h fl.c) s := by
  rw [State.setFlags, RegisterFile.setFlags_eq, Flags.toF_eq_fByte]
  rfl

/-- The state after an operation writes its result to A and its flags to F. -/
def withResult (r : Byte × Flags) (s : State) : State := withAF r.1 (fByte r.2.z r.2.n r.2.h r.2.c) s

theorem State.setA_setFlags (v : Byte) (fl : Flags) : (s.setR .a v).setFlags fl = withResult (v, fl) s :=
  State.setFlags_eq_withF _ fl

/-- An operation that gives A back writes F alone. -/
theorem withResult_of_a {v : Byte} (h : s.regs.a = v) (fl : Flags) :
    withResult (v, fl) s = withF (fByte fl.z fl.n fl.h fl.c) s := by
  subst h
  rfl

end

/-! ### The groups -/

/-- The index in table `alu` (R166). -/
def aluCode : AluOp → Byte
  | .add => 0 | .adc => 1 | .sub => 2 | .sbc => 3 | .and => 4 | .xor => 5 | .or => 6 | .cp => 7

theorem encode_alu (op : AluOp) (m : Rm) : encode (Instr.alu op m) = [0x80 + 8 * aluCode op + rmCode m] := by
  cases op <;> rcases m with ⟨⟨⟩⟩ | _ <;> rfl

theorem encode_aluImm (op : AluOp) (n : Byte) : encode (Instr.aluImm op n) = [0xC6 + 8 * aluCode op, n] := by
  cases op <;> rfl

theorem encode_inc (m : Rm) : encode (Instr.inc m) = [0x04 + 8 * rmCode m] := by
  rcases m with ⟨⟨⟩⟩ | _ <;> rfl

theorem encode_dec (m : Rm) : encode (Instr.dec m) = [0x05 + 8 * rmCode m] := by
  rcases m with ⟨⟨⟩⟩ | _ <;> rfl

section
variable (s : State)

theorem exec_alu_eq (op : AluOp) (m : Rm) :
    exec (Instr.alu op m) s =
      done (byForm m 4 8) (withResult (alu8 op s.regs.a (operand m s) (cf s)) (afterOperand m s)) := by
  rw [exec_alu, aluOperand, applyAlu, State.setA_setFlags, readRm_eq, formCycles_eq_byForm, State.cf,
    afterOperand_regs]
  rfl

theorem exec_aluImm_eq (op : AluOp) (n : Byte) :
    exec (Instr.aluImm op n) s = done 8 (withResult (alu8 op s.regs.a n (cf s)) s) := by
  rw [exec_aluImm, aluImmediate, applyAlu, State.setA_setFlags]
  rfl

theorem exec_inc_eq (m : Rm) :
    exec (Instr.inc m) s =
      done (byForm m 4 12) ((withOperand m (inc8 (operand m s) s.regs.flags).1 (afterOperand m s)).setFlags
        (inc8 (operand m s) s.regs.flags).2) := by
  rw [exec_inc, incOperand, readRm_eq, writeRm_eq_withOperand, formCycles_eq_byForm]
  rfl

theorem exec_dec_eq (m : Rm) :
    exec (Instr.dec m) s =
      done (byForm m 4 12) ((withOperand m (dec8 (operand m s) s.regs.flags).1 (afterOperand m s)).setFlags
        (dec8 (operand m s) s.regs.flags).2) := by
  rw [exec_dec, decOperand, readRm_eq, writeRm_eq_withOperand, formCycles_eq_byForm]
  rfl

end

/-! ### The operations as arithmetic and bit by bit -/

theorem toNat_and_0x0F (v : Byte) : (v &&& 0x0F).toNat = v.toNat % 16 :=
  (BitVec.toNat_and v 0x0F).trans (Nat.and_two_pow_sub_one_eq_mod v.toNat 4)

theorem byte_beq_eq_decide (v w : Byte) : (v == w) = decide (v.toNat = w.toNat) := by
  rw [Bool.eq_iff_iff, beq_iff_eq, decide_eq_true_iff, BitVec.toNat_inj]

theorem byte_beq_zero (v : Byte) : (v == 0) = decide (v.toNat = 0) := byte_beq_eq_decide v 0

section
variable (a b : Byte) (c : Bool)

/-- The sum with its flags (R250). -/
theorem add8_eq : add8 a b c =
    (BitVec.ofNat 8 ((a.toNat + b.toNat + c.toNat) % 256),
      { z := decide ((a.toNat + b.toNat + c.toNat) % 256 = 0)
        n := false
        h := decide (a.toNat % 16 + b.toNat % 16 + c.toNat > 0x0F)
        c := decide (a.toNat + b.toNat + c.toNat > 0xFF) }) := by
  have hsum : ∀ t, BitVec.ofNat 8 t = BitVec.ofNat 8 (t % 256) := fun t => by bv_omega
  simp only [add8, toNat_and_0x0F, byte_beq_zero, BitVec.toNat_ofNat, Nat.reducePow, ← hsum]

/-- A difference of bytes with a borrow, in 8 bits: modulo 256 it is what 512 more leaves. -/
theorem ofInt_sub_sub_eq_ofNat :
    BitVec.ofInt 8 (a.toNat - b.toNat - c.toNat) = BitVec.ofNat 8 (a.toNat + 512 - b.toNat - c.toNat) := by
  have hc := c.toNat_le
  have hb := b.isLt
  rw [← BitVec.ofInt_natCast]
  apply BitVec.eq_of_toNat_eq
  simp only [BitVec.toNat_ofInt]
  omega

/-- The difference with its flags (R251). -/
theorem sub8_eq : sub8 a b c =
    (BitVec.ofNat 8 (a.toNat + 512 - b.toNat - c.toNat),
      { z := decide (a.toNat % 256 = (b.toNat + c.toNat) % 256)
        n := true
        h := decide (a.toNat % 16 < b.toNat % 16 + c.toNat)
        c := decide (a.toNat < b.toNat + c.toNat) }) := by
  have hc := c.toNat_le
  have hb := b.isLt
  have hz : (a.toNat + 512 - b.toNat - c.toNat) % 256 = 0 ↔
      a.toNat % 256 = (b.toNat + c.toNat) % 256 := by omega
  have hh : ((a.toNat % 16 : Nat) : Int) - (b.toNat % 16 : Nat) - c.toNat < 0 ↔
      a.toNat % 16 < b.toNat % 16 + c.toNat := by omega
  have hborrow : (a.toNat : Int) - b.toNat - c.toNat < 0 ↔ a.toNat < b.toNat + c.toNat := by omega
  simp only [sub8, ofInt_sub_sub_eq_ofNat, toNat_and_0x0F, byte_beq_zero, BitVec.toNat_ofNat, Nat.reducePow,
    hz, hh, hborrow]

end

/-- Two bytes combined bit by bit, with the flags of R252; `h` is the forced half carry. -/
def bitwise8 (f : Bool → Bool → Bool) (h : Bool) (a b : Byte) : Byte × Flags :=
  (BitVec.ofFnLE fun i : Fin 8 => f (a.getLsbD i) (b.getLsbD i),
    { z := decide ((BitVec.ofFnLE fun i : Fin 8 => f (a.getLsbD i) (b.getLsbD i)).toNat = 0)
      n := false
      h := h
      c := false })

/-- A byte whose bits are `f` of the bits of two others is their combination. -/
theorem bitwise8_of_bits {f : Bool → Bool → Bool} {a b r : Byte} (h : Bool)
    (hr : ∀ i, r.getLsbD i = f (a.getLsbD i) (b.getLsbD i)) :
    (r, { z := r == 0, n := false, h := h, c := false }) = bitwise8 f h a b := by
  have hbits : BitVec.ofFnLE (fun i : Fin 8 => f (a.getLsbD i) (b.getLsbD i)) = r := by
    apply BitVec.eq_of_getLsbD_eq
    intro i hi
    rw [BitVec.getLsbD_ofFnLE, dif_pos hi, hr]
  rw [bitwise8, hbits, byte_beq_zero]

section
variable (a b : Byte)

theorem and8_eq_bitwise8 : and8 a b = bitwise8 and true a b := bitwise8_of_bits true fun _ => BitVec.getLsbD_and

theorem xor8_eq_bitwise8 : xor8 a b = bitwise8 Bool.xor false a b :=
  bitwise8_of_bits false fun _ => BitVec.getLsbD_xor

theorem or8_eq_bitwise8 : or8 a b = bitwise8 or false a b := bitwise8_of_bits false fun _ => BitVec.getLsbD_or

end

/-- The increment with its flags (R277). -/
theorem inc8_eq (v : Byte) (fl : Flags) : inc8 v fl =
    (BitVec.ofNat 8 (v.toNat + 1),
      { z := decide (v = 0xFF), n := false, h := decide (v.toNat % 16 = 0x0F), c := fl.c }) := by
  have hv : v + 1 = BitVec.ofNat 8 (v.toNat + 1) := by bv_omega
  have hz : v + 1 = 0 ↔ v = 0xFF := by bv_omega
  rw [inc8]
  simp only [byte_beq_eq_decide (v &&& 0x0F), toNat_and_0x0F, beq_eq_decide, hz, ← hv]
  rfl

/-- The decrement with its flags (R279). -/
theorem dec8_eq (v : Byte) (fl : Flags) : dec8 v fl =
    (BitVec.ofNat 8 (v.toNat + 255),
      { z := decide (v = 0x01), n := true, h := decide (v.toNat % 16 = 0x00), c := fl.c }) := by
  have hv : v - 1 = BitVec.ofNat 8 (v.toNat + 255) := by bv_omega
  have hz : v - 1 = 0 ↔ v = 0x01 := by bv_omega
  rw [dec8]
  simp only [byte_beq_eq_decide (v &&& 0x0F), toNat_and_0x0F, beq_eq_decide, hz, ← hv]
  rfl

theorem complement_eq (v : Byte) : ~~~v = BitVec.ofNat 8 (255 - v.toNat) := by
  apply BitVec.eq_of_toNat_eq
  rw [BitVec.toNat_not, BitVec.toNat_ofNat]
  omega

/-! ### DAA -/

section
variable (a : Byte) (fl : Flags)

theorem daaHigh_eq : daaHigh a fl = (fl.c || (!fl.n && decide (a.toNat > 0x99))) := by
  rw [daaHigh]
  cases fl.n <;> simp

theorem daaLow_eq : daaLow a fl = (fl.h || (!fl.n && decide (a.toNat % 16 > 0x09))) := by
  rw [daaLow, toNat_and_0x0F]
  cases fl.n <;> simp

/-- A with the corrections `high` and `low`, taken off after a subtraction (R281). -/
def corrected (subtracted high low : Bool) : Byte :=
  if subtracted then a - (if high then 0x60 else 0x00) - (if low then 0x06 else 0x00)
  else a + (if high then 0x60 else 0x00) + (if low then 0x06 else 0x00)

theorem high_correction_eq (n high : Bool) :
    (if high then (if n then a - 0x60 else a + 0x60) else a) = corrected a n high false := by
  cases n <;> cases high <;> simp [corrected]

theorem low_correction_eq (n high low : Bool) :
    (if low then (if n then corrected a n high false - 0x06 else corrected a n high false + 0x06)
      else corrected a n high false) = corrected a n high low := by
  cases n <;> cases low <;> simp [corrected]

/-- The low correction looks at the low digit, which the high one leaves. -/
theorem daaLow_corrected (high : Bool) : daaLow (corrected a fl.n high false) fl = daaLow a fl := by
  have hdigit : (corrected a fl.n high false).toNat % 16 = a.toNat % 16 := by
    unfold corrected
    split_ifs <;> bv_omega
  rw [daaLow_eq, daaLow_eq, hdigit]

/-- DAA makes both corrections as A and the flags stood before it; the high one gives the carry (R281). -/
theorem daa8_eq : daa8 a fl =
    (corrected a fl.n (daaHigh a fl) (daaLow a fl),
      { z := decide ((corrected a fl.n (daaHigh a fl) (daaLow a fl)).toNat = 0)
        n := fl.n
        h := false
        c := daaHigh a fl }) := by
  have hcarry : (if fl.n then fl.c else daaHigh a fl) = daaHigh a fl := by
    rw [daaHigh_eq]
    cases fl.n <;> simp
  simp only [daa8, high_correction_eq, daaLow_corrected, low_correction_eq, byte_beq_zero, hcarry]

end

/-! ### The statements -/

/-- Settles O32: both groups by `add8_eq`, ADD with no carry. -/
theorem addAndAdc : Obligations.AddAndAdc := by
  intro m n s
  simp only [exec_alu_eq, exec_aluImm_eq, alu8, add8_eq]
  exact ⟨encode_alu .add m, rfl, encode_aluImm .add n, rfl, encode_alu .adc m, rfl, encode_aluImm .adc n, rfl⟩

/-- Settles O33: SUB and SBC by `sub8_eq`; CP has the flags of SUB and gives A back. -/
theorem subSbcAndCp : Obligations.SubSbcAndCp := by
  intro m n s
  have hcp : (afterOperand m s).regs.a = s.regs.a := by rw [afterOperand_regs]
  simp only [exec_alu_eq, exec_aluImm_eq, alu8, sub8_eq, withResult_of_a _ hcp, withResult_of_a s rfl]
  exact ⟨encode_alu .sub m, rfl, encode_aluImm .sub n, rfl, encode_alu .sbc m, rfl, encode_aluImm .sbc n, rfl,
    encode_alu .cp m, rfl, encode_aluImm .cp n, rfl⟩

/-- Settles O34: each of the three operations is `bitwise8` of its operation on bits. -/
theorem andXorOr : Obligations.AndXorOr := by
  intro m n s
  simp only [exec_alu_eq, exec_aluImm_eq, alu8, and8_eq_bitwise8, xor8_eq_bitwise8, or8_eq_bitwise8]
  exact ⟨encode_alu .and m, rfl, encode_aluImm .and n, rfl, encode_alu .xor m, rfl, encode_aluImm .xor n, rfl,
    encode_alu .or m, rfl, encode_aluImm .or n, rfl⟩

/-- Settles O35: `inc8_eq` and `dec8_eq`, which keep the carry flag. -/
theorem incAndDec : Obligations.IncAndDec := by
  intro m s
  rw [exec_inc_eq, exec_dec_eq, inc8_eq, dec8_eq, State.setFlags_eq_withF, State.setFlags_eq_withF]
  exact ⟨encode_inc m, rfl, encode_dec m, rfl⟩

/-- Settles O36: `daa8_eq`, with the conditions of the two corrections as the statement writes them. -/
theorem decimalAdjust : Obligations.DecimalAdjust := by
  intro s
  have hdaa : exec .daa s = done 4 (withResult (daa8 s.regs.a s.regs.flags) s) :=
    congrArg (finish 4) (s.setA_setFlags _ _)
  rw [hdaa, daa8_eq, daaHigh_eq, daaLow_eq]
  exact ⟨rfl, rfl⟩

/-- Settles O37: CPL by `complement_eq`; SCF and CCF write F alone. -/
theorem cplScfCcf : Obligations.CplScfCcf := by
  intro s
  rw [← complement_eq]
  exact ⟨rfl, congrArg (finish 4) (s.setA_setFlags _ _), rfl, congrArg (finish 4) (s.setFlags_eq_withF _), rfl,
    congrArg (finish 4) (s.setFlags_eq_withF _)⟩

end Sys2Proof.Machine
end

section
/-!
PROOFS, the 16-bit arithmetic (O38, O39). A displacement is its byte as a signed number; the two sums of R300 and
R301 are then said once, each with its four flags, and the rest is the pairs as the statements write them.
-/

namespace Sys2Proof.Machine

open Sys2Proof.Statements

/-! ### Pairs, as the statements write them -/

theorem State.get16_pairOf_eq_pair (s : State) (p : Rp) : s.regs.get16 (pairOf p) = pair p s := by cases p <;> rfl

/-! ### The encodings of the groups -/

theorem encode_addHL (p : Rp) : encode (Instr.addHL p) = [0x09 + 16 * rpCode p] := by cases p <;> rfl

theorem encode_incPair (p : Rp) : encode (Instr.incPair p) = [0x03 + 16 * rpCode p] := by cases p <;> rfl

theorem encode_decPair (p : Rp) : encode (Instr.decPair p) = [0x0B + 16 * rpCode p] := by cases p <;> rfl

/-! ### The displacement (R170) -/

theorem displacement_eq_toInt (e : Byte) : displacement e = e.toInt := by
  rw [displacement, BitVec.toInt_eq_toNat_cond]
  split_ifs <;> omega

/-- Adding the sign-extended byte adds its displacement, modulo 2^16. -/
theorem word_add_sext16_eq (w : Word) (e : Byte) :
    w + sext16 e = BitVec.ofInt 16 ((w.toNat : Int) + displacement e) := by
  rw [displacement_eq_toInt, BitVec.ofInt_add, BitVec.ofInt_natCast, BitVec.ofNat_toNat, BitVec.setWidth_eq]
  rfl

/-! ### The sums as arithmetic -/

/-- The mask of the low `k` bits takes the remainder modulo 2^k. -/
theorem word_toNat_and_mask (w : Word) {k : Nat} (hk : k ≤ 16) :
    (w &&& BitVec.ofNat 16 (2 ^ k - 1)).toNat = w.toNat % 2 ^ k := by
  have hmask : 2 ^ k - 1 < 2 ^ 16 := (Nat.sub_lt k.two_pow_pos one_pos).trans_le (Nat.pow_le_pow_right two_pos hk)
  rw [BitVec.toNat_and, BitVec.toNat_ofNat, Nat.mod_eq_of_lt hmask, Nat.and_two_pow_sub_one_eq_mod]

/-- The sum of two words with its flags: carries from bits 11 and 15 (R301). -/
theorem add16_eq (a b : Word) (fl : Flags) : add16 a b fl =
    (BitVec.ofNat 16 (a.toNat + b.toNat),
      { z := fl.z
        n := false
        h := decide (a.toNat % 4096 + b.toNat % 4096 > 0x0FFF)
        c := decide (a.toNat + b.toNat > 0xFFFF) }) := by
  have hlow (w : Word) : (w &&& 0x0FFF).toNat = w.toNat % 4096 := word_toNat_and_mask w (k := 12) (by decide)
  rw [add16, hlow, hlow]

/-- The signed sum, with the flags of the unsigned sum of the low bytes (R300). -/
theorem addSpe_eq (sp : Word) (e : Byte) : addSpe sp e =
    (BitVec.ofInt 16 ((sp.toNat : Int) + displacement e),
      { z := false
        n := false
        h := decide (sp.toNat % 16 + e.toNat % 16 > 0x0F)
        c := decide (sp.toNat % 256 + e.toNat > 0xFF) }) := by
  have hnibble : (sp &&& 0x000F).toNat = sp.toNat % 16 := word_toNat_and_mask sp (k := 4) (by decide)
  have hbyte : (sp &&& 0x00FF).toNat = sp.toNat % 256 := word_toNat_and_mask sp (k := 8) (by decide)
  rw [addSpe, word_add_sext16_eq, hnibble, hbyte, toNat_and_0x0F]

/-! ### The shared operations -/

section
variable (s : State)

theorem addPairToHL_eq (p : Rp) :
    addPairToHL p s =
      done 8 ((withHL (add16 (hl s) (pair p s) s.regs.flags).1 s).setFlags
        (add16 (hl s) (pair p s) s.regs.flags).2) := by
  rw [addPairToHL, State.get16_pairOf_eq_pair, State.set16_hl_eq_withHL]
  rfl

theorem incPair_eq (p : Rp) :
    incPair p s = done 8 (withPair p (BitVec.ofNat 16 ((pair p s).toNat + 1)) s) := by
  rw [incPair, State.get16_pairOf_eq_pair, State.set16_pairOf_eq_withPair, word_add_one_eq]
  rfl

theorem decPair_eq (p : Rp) :
    decPair p s = done 8 (withPair p (BitVec.ofNat 16 ((pair p s).toNat + 65535)) s) := by
  rw [decPair, State.get16_pairOf_eq_pair, State.set16_pairOf_eq_withPair, BitVec.sub_eq_add_neg, word_add_neg_one_eq]
  rfl

end

/-! ### The statements -/

/-- Settles O38: ADD HL by `add16_eq`, INC and DEC by the steps of a pair modulo 2^16. -/
theorem pairArithmetic : Obligations.PairArithmetic := by
  intro p s
  rw [exec_addHL, addPairToHL_eq, add16_eq, State.setFlags_eq_withF, exec_incPair, exec_decPair]
  exact ⟨encode_addHL p, rfl, encode_incPair p, incPair_eq s p, encode_decPair p, decPair_eq s p⟩

/-- Settles O39: both instructions write the result and the flags of `addSpe_eq`; writing F commutes with writing
SP or HL. -/
theorem stackPointerDisplacement : Obligations.StackPointerDisplacement := by
  intro e s
  rw [exec_add_SP_e, exec_ld_HL_SPe, addSpe_eq, State.setFlags_eq_withF, State.set16_hl_eq_withHL]
  exact ⟨rfl, rfl, rfl, rfl⟩

end Sys2Proof.Machine
end

section
/-!
PROOFS, the rotates, shifts and bit instructions (O40–O43). `rotResult_eq` and `rotCarry_eq` say `Rot` of R324 once as
arithmetic: each result is two fields side by side, and the carry is the bit shifted out. RES and SET are the byte
with one bit replaced.
-/

namespace Sys2Proof.Machine

open Sys2Proof.Statements

/-! ### The encodings of the groups -/

theorem encode_rot (k : RotOp) (m : Rm) : encode (Instr.rot k m) = [0xCB, 8 * rotCode k + rmCode m] := by
  cases k <;> rcases m with ⟨⟨⟩⟩ | _ <;> rfl

theorem encode_bit (b : Fin 8) (m : Rm) :
    encode (Instr.bit b m) = [0xCB, 0x40 + BitVec.ofNat 8 (8 * b.val) + rmCode m] := by
  fin_cases b <;> rcases m with ⟨⟨⟩⟩ | _ <;> rfl

theorem encode_res (b : Fin 8) (m : Rm) :
    encode (Instr.res b m) = [0xCB, 0x80 + BitVec.ofNat 8 (8 * b.val) + rmCode m] := by
  fin_cases b <;> rcases m with ⟨⟨⟩⟩ | _ <;> rfl

theorem encode_set (b : Fin 8) (m : Rm) :
    encode (Instr.set b m) = [0xCB, 0xC0 + BitVec.ofNat 8 (8 * b.val) + rmCode m] := by
  fin_cases b <;> rcases m with ⟨⟨⟩⟩ | _ <;> rfl

/-! ### `Rot` as arithmetic (R324) -/

/-- The result of `Rot(k, v)` with carry `c`, before it is cut to eight bits. -/
def rotSum (k : RotOp) (v c : Nat) : Nat :=
  match k with
  | .rlc => 2 * v + v / 128
  | .rrc => v / 2 + 128 * (v % 2)
  | .rl => 2 * v + c
  | .rr => v / 2 + 128 * c
  | .sla => 2 * v
  | .sra => v / 2 + v / 128 * 128
  | .swap => v % 16 * 16 + v / 16
  | .srl => v / 2

/-- The bit `Rot(k, v)` shifts out; SWAP shifts none. -/
def rotOut (k : RotOp) (v : Nat) : Bool :=
  match k with
  | .rlc | .rl | .sla => decide (128 ≤ v)
  | .rrc | .rr | .sra | .srl => decide (v % 2 = 1)
  | .swap => false

theorem byte_getLsbD_7 (v : Byte) : v.getLsbD 7 = decide (128 ≤ v.toNat) := BitVec.msb_eq_decide v

theorem byte_getLsbD_0 (v : Byte) : v.getLsbD 0 = decide (v.toNat % 2 = 1) := Nat.testBit_zero v.toNat

theorem rotCarry_eq (k : RotOp) (v : Byte) : rotCarry k v = rotOut k v.toNat := by
  cases k
  case rlc | rl | sla => exact byte_getLsbD_7 v
  case rrc | rr | sra | srl => exact byte_getLsbD_0 v
  case swap => rfl

theorem toNat_bitByte (b : Bool) : (bitByte b).toNat = b.toNat := by cases b <;> rfl

theorem toNat_bitByte_getLsbD (v : Byte) (i : Nat) : (bitByte (v.getLsbD i)).toNat = v.toNat / 2 ^ i % 2 :=
  (toNat_bitByte _).trans (Nat.toNat_testBit v.toNat i)

theorem toNat_bitByte_7 (v : Byte) : (bitByte (v.getLsbD 7)).toNat = v.toNat / 128 := by
  rw [toNat_bitByte_getLsbD]
  exact Nat.mod_eq_of_lt (Nat.div_lt_of_lt_mul v.isLt)

theorem toNat_bitByte_0 (v : Byte) : (bitByte (v.getLsbD 0)).toNat = v.toNat % 2 := by
  rw [toNat_bitByte_getLsbD, pow_zero, Nat.div_one]

theorem and_0x80_eq (v : Byte) : v &&& (0x80 : Byte) = bitByte (v.getLsbD 7) <<< 7 := by
  rw [show (0x80 : Byte) = BitVec.twoPow 8 7 from rfl, BitVec.and_twoPow]
  cases v.getLsbD 7 <;> rfl

/-- A field above `n` low bits, cut to a byte, is their sum. -/
theorem shiftLeft_or_eq (high low : Byte) {n : Nat} (hlow : low.toNat < 2 ^ n) :
    high <<< n ||| low = BitVec.ofNat 8 (2 ^ n * high.toNat + low.toNat) := by
  apply BitVec.eq_of_toNat_eq
  rw [BitVec.toNat_or, BitVec.toNat_shiftLeft, BitVec.toNat_ofNat, Nat.mul_comm, ← Nat.shiftLeft_eq,
    Nat.shiftLeft_add_eq_or_of_lt hlow, Nat.or_mod_two_pow, Nat.mod_eq_of_lt low.isLt]

/-- A bit is shifted in at the low end. -/
theorem shiftLeft_or_bitByte (v : Byte) (b : Bool) :
    v <<< 1 ||| bitByte b = BitVec.ofNat 8 (2 * v.toNat + (bitByte b).toNat) :=
  shiftLeft_or_eq v (bitByte b) (n := 1) (by rw [toNat_bitByte]; exact b.toNat_lt)

theorem toNat_ushiftRight_byte (v : Byte) (n : Nat) : (v >>> n).toNat = v.toNat / 2 ^ n := by
  rw [BitVec.toNat_ushiftRight, Nat.shiftRight_eq_div_pow]

/-- A bit is shifted in at the high end. -/
theorem ushiftRight_or_bitByte (v : Byte) (b : Bool) :
    v >>> 1 ||| bitByte b <<< 7 = BitVec.ofNat 8 (v.toNat / 2 + 128 * (bitByte b).toNat) := by
  have hhalf : (v >>> 1).toNat = v.toNat / 2 := toNat_ushiftRight_byte v 1
  rw [BitVec.or_comm, shiftLeft_or_eq _ _ (n := 7) (by omega), hhalf, Nat.add_comm]
  rfl

theorem swap_eq (v : Byte) : (v &&& 0x0F) <<< 4 ||| v >>> 4 = BitVec.ofNat 8 (v.toNat % 16 * 16 + v.toNat / 16) := by
  have hhigh : (v >>> 4).toNat = v.toNat / 16 := toNat_ushiftRight_byte v 4
  rw [shiftLeft_or_eq _ _ (n := 4) (by omega), hhigh, toNat_and_0x0F, Nat.mul_comm]
  rfl

theorem rotResult_eq (k : RotOp) (v : Byte) (c : Bool) :
    rotResult k v c = BitVec.ofNat 8 (rotSum k v.toNat c.toNat) := by
  cases k <;> simp only [rotResult, rotSum]
  case rlc => rw [shiftLeft_or_bitByte, toNat_bitByte_7]
  case rrc => rw [ushiftRight_or_bitByte, toNat_bitByte_0]
  case rl => rw [shiftLeft_or_bitByte, toNat_bitByte]
  case rr => rw [ushiftRight_or_bitByte, toNat_bitByte]
  case sla => exact BitVec.or_zero.symm.trans (shiftLeft_or_bitByte v false)
  case sra => rw [and_0x80_eq, ushiftRight_or_bitByte, toNat_bitByte_7, Nat.mul_comm]
  case swap => exact swap_eq v
  case srl => exact BitVec.or_zero.symm.trans (ushiftRight_or_bitByte v false)

theorem rotResult_beq_zero (k : RotOp) (v : Byte) (c : Bool) :
    (rotResult k v c == 0) = decide (rotSum k v.toNat c.toNat % 256 = 0) := by
  rw [byte_beq_zero, rotResult_eq, BitVec.toNat_ofNat]

/-! ### One bit of a byte -/

/-- The byte `v` with bit `b` replaced by `x`. -/
def withBit (b : Fin 8) (x : Bool) (v : Byte) : Byte :=
  BitVec.ofFnLE fun i : Fin 8 => if i.val = b.val then x else v.getLsbD i

theorem eq_withBit {b : Fin 8} {x : Bool} {v r : Byte}
    (hr : ∀ j, r.getLsbD j = if j = b.val then x else v.getLsbD j) : r = withBit b x v := by
  apply BitVec.eq_of_getLsbD_eq
  intro j hj
  rw [hr, withBit, BitVec.getLsbD_ofFnLE, dif_pos hj]

/-- The mask `1 << b` has bit `b` alone. -/
theorem getLsbD_one_shiftLeft (b : Fin 8) (j : Nat) : ((0x01 : Byte) <<< b.val).getLsbD j = decide (j = b.val) := by
  rw [show (0x01 : Byte) <<< b.val = BitVec.twoPow 8 b.val from rfl, BitVec.getLsbD_twoPow,
    decide_eq_true b.isLt, Bool.true_and]
  exact decide_eq_decide.mpr eq_comm

theorem resBit_eq_withBit (b : Fin 8) (v : Byte) : resBit b v = withBit b false v := by
  apply eq_withBit
  intro j
  rw [resBit, getLsbD_and_not_mask v _ j (getLsbD_one_shiftLeft b)]
  split_ifs with h <;> simp [h]

theorem setBit_eq_withBit (b : Fin 8) (v : Byte) : setBit b v = withBit b true v := by
  apply eq_withBit
  intro j
  rw [setBit, getLsbD_or_mask v _ j (getLsbD_one_shiftLeft b)]
  split_ifs with h <;> simp [h]

/-- The complement of a bit, as BIT leaves it in Z (R341). -/
theorem not_getLsbD_eq (v : Byte) (i : Nat) : (!v.getLsbD i) = decide (v.toNat / 2 ^ i % 2 = 0) := by
  rw [BitVec.getLsbD, Nat.testBit_eq_decide_div_mod_eq, ← decide_not]
  exact decide_eq_decide.mpr Nat.mod_two_not_eq_one

/-! ### The shared operations -/

section
variable (s : State)

theorem rotA_eq (k : RotOp) :
    rotA k s =
      done 4 (withAF (BitVec.ofNat 8 (rotSum k s.regs.a.toNat (cf s).toNat))
        (fByte false false false (rotOut k s.regs.a.toNat)) s) := by
  rw [rotA, State.setA_setFlags, rotA8, rotResult_eq, rotCarry_eq]
  rfl

theorem rotOperand_eq (k : RotOp) (m : Rm) :
    rotOperand k m s =
      done (byForm m 8 16)
        (withF (fByte (decide (rotSum k (operand m s).toNat (cf s).toNat % 256 = 0)) false false
            (rotOut k (operand m s).toNat))
          (withOperand m (BitVec.ofNat 8 (rotSum k (operand m s).toNat (cf s).toNat)) (afterOperand m s))) := by
  rw [rotOperand, readRm_eq, writeRm_eq_withOperand, formCycles_eq_byForm, State.setFlags_eq_withF, rot8,
    rotResult_beq_zero, rotResult_eq, rotCarry_eq]
  rfl

theorem bitOperand_eq (b : Fin 8) (m : Rm) :
    bitOperand b m s =
      done (byForm m 8 12)
        (withF (fByte (decide ((operand m s).toNat / 2 ^ b.val % 2 = 0)) false true (cf s))
          (afterOperand m s)) := by
  rw [bitOperand, readRm_eq, formCycles_eq_byForm, State.setFlags_eq_withF, bitFlags, not_getLsbD_eq]
  rfl

theorem resOperand_eq (b : Fin 8) (m : Rm) :
    resOperand b m s =
      done (byForm m 8 16) (withOperand m (withBit b false (operand m s)) (afterOperand m s)) := by
  rw [resOperand, readRm_eq, writeRm_eq_withOperand, formCycles_eq_byForm, resBit_eq_withBit]
  rfl

theorem setOperand_eq (b : Fin 8) (m : Rm) :
    setOperand b m s =
      done (byForm m 8 16) (withOperand m (withBit b true (operand m s)) (afterOperand m s)) := by
  rw [setOperand, readRm_eq, writeRm_eq_withOperand, formCycles_eq_byForm, setBit_eq_withBit]
  rfl

end

/-! ### The statements -/

/-- Settles O40: `rotA_eq` at the four rotates. -/
theorem accumulatorRotates : Obligations.AccumulatorRotates := by
  intro s
  rw [exec_rlca, exec_rrca, exec_rla, exec_rra]
  exact ⟨rfl, rotA_eq s .rlc, rfl, rotA_eq s .rrc, rfl, rotA_eq s .rl, rfl, rotA_eq s .rr⟩

/-- Settles O41: `rotOperand_eq` at the four rotates. -/
theorem cbRotates : Obligations.CbRotates := by
  intro m s
  simp only [exec_rot]
  exact ⟨encode_rot .rlc m, rotOperand_eq s .rlc m, encode_rot .rrc m, rotOperand_eq s .rrc m,
    encode_rot .rl m, rotOperand_eq s .rl m, encode_rot .rr m, rotOperand_eq s .rr m⟩

/-- Settles O42: `rotOperand_eq` at the three shifts and SWAP, which do not look at the carry. -/
theorem cbShiftsAndSwap : Obligations.CbShiftsAndSwap := by
  intro m s
  simp only [exec_rot]
  exact ⟨encode_rot .sla m, rotOperand_eq s .sla m, encode_rot .sra m, rotOperand_eq s .sra m,
    encode_rot .swap m, rotOperand_eq s .swap m, encode_rot .srl m, rotOperand_eq s .srl m⟩

/-- Settles O43: BIT by `bitOperand_eq`; RES and SET replace one bit of the operand. -/
theorem bitResSet : Obligations.BitResSet := by
  intro b m s
  rw [exec_bit, exec_res, exec_set]
  exact ⟨encode_bit b m, bitOperand_eq s b m, encode_res b m, resOperand_eq s b m,
    encode_set b m, setOperand_eq s b m⟩

end Sys2Proof.Machine
end

section
/-!
PROOFS, the jumps, calls and returns (O44–O46). A conditional instruction chooses between two outcomes by its
condition, said once for `holds`; a target is then what PC is set to, and the stack is `pushed` and `popped`.
-/

namespace Sys2Proof.Machine

open Sys2Proof.Statements

/-! ### The conditions (R360) -/

theorem condHolds_iff_holds (k : Cond) (s : State) : condHolds k s.regs.flags = true ↔ holds k s := by
  cases k with
  | nz | nc => exact .of_eq (Bool.not_eq_true' _)
  | z | c => exact Iff.rfl

section
variable {k : Cond} {s : State}

theorem ite_condHolds_of_holds (h : holds k s) (taken notTaken : Result) :
    (if condHolds k s.regs.flags then taken else notTaken) = taken :=
  if_pos ((condHolds_iff_holds k s).mpr h)

theorem ite_condHolds_of_not_holds (h : ¬ holds k s) (taken notTaken : Result) :
    (if condHolds k s.regs.flags then taken else notTaken) = notTaken :=
  if_neg (mt (condHolds_iff_holds k s).mp h)

end

/-! ### The encodings of the groups -/

theorem encode_jp_nn (nn : Word) : encode (.jp_nn nn) = [0xC3, lo nn, hi nn] := by
  rw [lo_eq_loByte, hi_eq_hiByte]
  rfl

theorem encode_call_nn (nn : Word) : encode (.call_nn nn) = [0xCD, lo nn, hi nn] := by
  rw [lo_eq_loByte, hi_eq_hiByte]
  rfl

theorem encode_jpCond (k : Cond) (nn : Word) : encode (Instr.jpCond k nn) = [0xC2 + 8 * ccCode k, lo nn, hi nn] := by
  rw [lo_eq_loByte, hi_eq_hiByte]
  cases k <;> rfl

theorem encode_jrCond (k : Cond) (e : Byte) : encode (Instr.jrCond k e) = [0x20 + 8 * ccCode k, e] := by
  cases k <;> rfl

theorem encode_callCond (k : Cond) (nn : Word) :
    encode (Instr.callCond k nn) = [0xC4 + 8 * ccCode k, lo nn, hi nn] := by
  rw [lo_eq_loByte, hi_eq_hiByte]
  cases k <;> rfl

theorem encode_retCond (k : Cond) : encode (Instr.retCond k) = [0xC0 + 8 * ccCode k] := by cases k <;> rfl

theorem encode_rst (y : Fin 8) : encode (Instr.rst y) = [0xC7 + BitVec.ofNat 8 (8 * y.val)] := by
  fin_cases y <;> rfl

/-! ### The shared operations -/

section
variable (s : State)

theorem jumpRelative_eq (e : Byte) :
    jumpRelative e s = withPC (BitVec.ofInt 16 ((s.regs.pc.toNat : Int) + displacement e)) s := by
  rw [jumpRelative, word_add_sext16_eq]
  rfl

theorem callTo_eq (nn : Word) : callTo nn s = withPC nn (pushed s.regs.pc s) := by
  rw [callTo, push16_eq_pushed]
  rfl

theorem returnTo_eq : returnTo s = withPC (popped s) (afterPop s) := by
  rw [returnTo, pop16_eq_popped]
  rfl

theorem returnFromInterrupt_eq :
    returnFromInterrupt s = { withPC (popped s) (afterPop s) with imeSched := true } := by
  rw [returnFromInterrupt, pop16_eq_popped]
  rfl

theorem restart_eq (y : Fin 8) :
    restart y s = done 16 (withPC (BitVec.ofNat 16 (8 * y.val)) (pushed s.regs.pc s)) := by
  rw [restart, callTo_eq, BitVec.ofNat_mul]
  rfl

end

/-! ### The statements -/

/-- Settles O44: each target is what the jump sets PC to, JR's by `jumpRelative_eq`; a condition chooses by
`condHolds_iff_holds`. -/
theorem jumps : Obligations.Jumps := by
  intro k e nn s
  rw [exec_jpCond, exec_jrCond, jumpIf, jumpRelativeIf, exec_jr_e, jumpRelative_eq]
  exact ⟨encode_jp_nn nn, rfl, encode_jpCond k nn,
    fun h => ite_condHolds_of_holds h _ _, fun h => ite_condHolds_of_not_holds h _ _,
    rfl, rfl, rfl, rfl, encode_jrCond k e,
    fun h => ite_condHolds_of_holds h _ _, fun h => ite_condHolds_of_not_holds h _ _⟩

/-- Settles O45: a taken call is `callTo_eq`, RST a call of `8 * y`; one not taken leaves the state. -/
theorem callsAndRestarts : Obligations.CallsAndRestarts := by
  intro k y nn s
  rw [exec_callCond, callIf, exec_call_nn, callTo_eq, exec_rst]
  exact ⟨encode_call_nn nn, rfl, encode_callCond k nn,
    fun h => ite_condHolds_of_holds h _ _, fun h => ite_condHolds_of_not_holds h _ _,
    encode_rst y, restart_eq s y⟩

/-- Settles O46: a taken return is `returnTo_eq`; RETI schedules the enable besides, and one not taken leaves the
state. -/
theorem returns : Obligations.Returns := by
  intro k s
  rw [exec_ret, exec_retCond, returnIf, returnTo_eq, exec_reti, returnFromInterrupt_eq]
  exact ⟨rfl, rfl, encode_retCond k,
    fun h => ite_condHolds_of_holds h _ _, fun h => ite_condHolds_of_not_holds h _ _, rfl, rfl⟩

end Sys2Proof.Machine
end

section
/-!
PROOFS, the CPU control (O47, O48, O51). The CB escape runs the catalog entry its second byte decodes to; a running
step ends in the commit of a schedule, and what the instruction did to IME, IME_SCHED and FAULT decides what the commit
leaves.
-/

namespace Sys2Proof.Machine

open Sys2Proof.Statements

/-! ### The CB escape (R398) -/

/-- The bound operation of a second byte is that of the instruction the byte decodes to (R174). -/
theorem exec_decodeCb (op2 : Byte) (s : State) : exec (decodeCb op2) s = execCbEntry op2 s := by
  unfold decodeCb execCbEntry
  generalize (fieldX op2).toNat = x
  match x with
  | 0 => exact exec_rot _ _ s
  | 1 => exact exec_bit _ _ s
  | 2 => exact exec_res _ _ s
  | _ + 3 => exact exec_set _ _ s

theorem tableR_fieldZ_eq_atHL_iff (op : Byte) : tableR (fieldZ op) = .atHL ↔ op.toNat % 8 = 6 :=
  ⟨tableR_atHL, by revert op; decide⟩

theorem formCycles_tableR (op : Byte) (r atHL : Nat) :
    formCycles (tableR (fieldZ op)) r atHL = if op.toNat % 8 ≠ 6 then r else atHL := by
  simp only [ne_eq, ← tableR_fieldZ_eq_atHL_iff, ite_not]
  cases tableR (fieldZ op) <;> rfl

/-- The figures of the CB catalog: BIT is the one column that stores nothing back at `(HL)` (R174, R398). -/
theorem execCbEntry_reports (op2 : Byte) (s : State) :
    Reports (execCbEntry op2 s) (if op2.toNat % 8 ≠ 6 then 8 else if op2.toNat / 64 = 1 then 12 else 16) := by
  rw [← formCycles_tableR, ← fieldX_toNat]
  unfold execCbEntry
  split
  · rename_i hx
    rw [if_neg (by omega)]
    exact (rotOperand_completes _ _ s).reports
  · rename_i hx
    rw [if_pos hx]
    exact (bitOperand_completes _ _ s).reports
  · rename_i hx
    rw [if_neg (by omega)]
    exact (resOperand_completes _ _ s).reports
  · rename_i hx _
    rw [if_neg hx]
    exact (setOperand_completes _ _ s).reports

/-- No entry of the CB catalog is an INVALID slot: its encoding has two bytes (R174, R176). -/
theorem not_isInvalid_decodeCb (op2 : Byte) : ¬ IsInvalid (decodeCb op2) := by
  rintro ⟨op, -, he⟩
  cases (encode_decodeCb op2).symm.trans he

/-- Settles O48: the escape fetches the second byte and runs `decodeCb` of it (`exec_decodeCb`). -/
theorem prefixCbRunsTheCbEntry : Obligations.PrefixCbRunsTheCbEntry := by
  intro s
  have hexec : exec .prefixCb s = execCbEntry (fetch8 s).1 (fetch8 s).2 := exec_prefixCb s
  obtain ⟨t, hnext, hreport⟩ := execCbEntry_reports (fetch8 s).1 (fetch8 s).2
  exact ⟨rfl, decodeCb (fetch8 s).1, t, decode_escape _ [], not_isInvalid_decodeCb _,
    hexec.trans (exec_decodeCb _ _).symm, hexec.trans hnext, hreport⟩

/-! ### What an instruction does to a schedule (R392) -/

/-- Every instruction answers a next state; an INVALID slot answers the stopped machine. -/
theorem exists_exec_eq_next (i : Instr) (s : State) : ∃ t, exec i s = .next t := by
  cases exec_forms i s with
  | completes _ _ h =>
    obtain ⟨t, ht, -⟩ := h
    exact ⟨t, ht⟩
  | halts _ _ h | disables h | enables h | returns h | stops _ _ _ _ h => exact ⟨_, h⟩

/-- EI and RETI schedule the enable (R370, R397). -/
theorem exec_schedules {i : Instr} {s t : State} (hi : i = .ei ∨ i = .reti) (h : exec i s = .next t) :
    t.imeSched = true := by
  obtain rfl | rfl := hi
  · cases (exec_ei s).symm.trans h
    rfl
  · cases (exec_reti s).symm.trans h
    rfl

/-- A schedule that stands survives every instruction but DI. -/
theorem exec_keeps_schedule {i : Instr} {s t : State} (hi : i ≠ .di) (hs : s.imeSched = true)
    (h : exec i s = .next t) : t.imeSched = true := by
  by_cases hsched : i = .ei ∨ i = .reti
  · exact exec_schedules hsched h
  · obtain ⟨hei, hreti⟩ := not_or.mp hsched
    obtain ⟨-, hkeep, -⟩ := exec_control h
    exact (hkeep hi hei hreti).trans hs

/-- An INVALID slot sets FAULT and leaves IME and the schedule (R399, R411). -/
theorem exec_of_isInvalid {i : Instr} {s t : State} (hi : IsInvalid i) (h : exec i s = .next t) :
    t.fault ≠ none ∧ t.ime = s.ime ∧ t.imeSched = s.imeSched := by
  obtain ⟨op, hop, he⟩ := hi
  cases (exec_invalidSlot s hop he).symm.trans h
  exact ⟨nofun, rfl, rfl⟩

/-! ### What the commit leaves after an instruction (R392) -/

theorem commitIme_of_not_scheduled (sched : Bool) {s : State} (h : s.imeSched = false) : commitIme sched s = s := by
  simp [commitIme, h]

theorem commitIme_of_fault (sched : Bool) {s : State} (h : s.fault ≠ none) : commitIme sched s = s := by
  rw [commitIme_eq_ite, if_neg (by tauto)]

section
variable {i : Instr} {s t : State}

/-- Without a schedule before EI or RETI there is nothing to commit yet. -/
theorem commitIme_after_enable (hs : s.imeSched = false) (hi : i = .ei ∨ i = .reti) (h : exec i s = .next t) :
    (commitIme s.imeSched t).ime = s.ime ∧ (commitIme s.imeSched t).imeSched = true := by
  have hdi : i ≠ .di := by rintro rfl; simp at hi
  obtain ⟨hime, -⟩ := exec_control h
  rw [hs]
  exact ⟨hime hdi, exec_schedules hi h⟩

/-- DI takes the schedule back, so the commit finds none. -/
theorem commitIme_after_di (sched : Bool) (h : exec .di s = .next t) :
    (commitIme sched t).ime = false ∧ (commitIme sched t).imeSched = false := by
  cases (exec_di s).symm.trans h
  rw [commitIme_of_not_scheduled sched rfl]
  exact ⟨rfl, rfl⟩

/-- A fault stop does not commit. -/
theorem commitIme_after_invalid (sched : Bool) (hi : IsInvalid i) (h : exec i s = .next t) :
    (commitIme sched t).ime = s.ime ∧ (commitIme sched t).imeSched = s.imeSched := by
  obtain ⟨hraised, hkept⟩ := exec_of_isInvalid hi h
  rwa [commitIme_of_fault sched hraised]

/-- After every other instruction a schedule that stood before it is committed. -/
theorem commitIme_after_scheduled (hs : s.imeSched = true) (hf : s.fault = none) (hi : i ≠ .di)
    (hvalid : ¬ IsInvalid i) (h : exec i s = .next t) :
    (commitIme s.imeSched t).ime = true ∧ (commitIme s.imeSched t).imeSched = false := by
  obtain ⟨-, -, -, hfault⟩ := exec_control h
  rw [commitIme_eq_ite, if_pos ⟨hs, exec_keeps_schedule hi hs h, (hfault hvalid).trans hf⟩]
  exact ⟨rfl, rfl⟩

end

/-! ### The steps -/

theorem Keeps.fetched (n : Nat) (s : State) : Keeps s (fetched n s).2 := by
  induction n generalizing s with
  | zero => exact Keeps.refl s
  | succ n ih => exact (Keeps.fetch8 s).trans (ih _)

/-- A running step is the instruction at PC and the commit of the schedule it began with (R390, R392). -/
theorem exists_step_eq_commitIme {s : State} {n : Nat} {i : Instr} (hs : RunsInstruction s)
    (h : decode (fetched n s).1 = .ok (i, [])) :
    ∃ u, exec i (fetched n s).2 = .next u ∧ step s = .next (commitIme s.imeSched u) := by
  obtain ⟨u, hu⟩ := exists_exec_eq_next i (fetched n s).2
  refine ⟨u, hu, ?_⟩
  rw [step_of_runsInstruction hs, fetchInstr_of_decode_fetched h, hu]
  rfl

/-- A step that begins halted leaves IME and the schedule: it executes nothing (R421, R422). -/
theorem step_of_halted_ime {s t : State} (hh : s.halted = true) (h : step s = .next t) :
    t.ime = s.ime ∧ t.imeSched = s.imeSched := by
  obtain ⟨-, ⟨-, rfl⟩ | ⟨-, -, rfl⟩ | ⟨k, hrun, -⟩ | ⟨u, hrun, -⟩⟩ := step_next_cases h
  · exact ⟨rfl, rfl⟩
  · exact ⟨rfl, rfl⟩
  · cases hh.symm.trans hrun
  · cases hh.symm.trans hrun

@[simp] theorem dispatchInterrupt_imeSched (k : IrqSource) (s : State) :
    (dispatchInterrupt k s).imeSched = false := by simp [dispatchInterrupt]

/-- A step that begins Running with IME set and a source pending is its dispatch, which clears IME and the schedule
(R418, R419). -/
theorem step_of_pending_ime {s t : State} (hh : s.halted = false) (hi : s.ime = true) (hp : pending s ≠ 0)
    (h : step s = .next t) : t.ime = false ∧ t.imeSched = false := by
  rcases cycle_cases s with ⟨f, -, e⟩ | ⟨-, hhalt, -⟩ | ⟨-, hhalt, -⟩ | ⟨k, -, -, -, -, e⟩ |
    ⟨-, -, hnone, -⟩
  · cases e.symm.trans h
  · cases hh.symm.trans hhalt
  · cases hh.symm.trans hhalt
  · cases e.symm.trans h
    exact ⟨dispatchInterrupt_ime k s, dispatchInterrupt_imeSched k s⟩
  · exact absurd ((firstPending_eq_none _).mp (hnone hi)) hp

/-- Settles O51: a running step by what its commit leaves after the instruction, a halted step and a dispatch by
their own lemmas, and `step_haltedSettled` for a step that leaves the machine halted. -/
theorem imeCommitAfterOneInstruction : Obligations.ImeCommitAfterOneInstruction := by
  refine fun s n i => ⟨fun hs hd => ?_, fun t => step_of_halted_ime, fun t => step_of_pending_ime, fun t h hs => ?_⟩
  · obtain ⟨u, hu, hstep⟩ := exists_step_eq_commitIme hs hd
    have hk := Keeps.fetched n s
    obtain ⟨hfault, -⟩ := hs
    rw [← hk.imeSched] at hstep ⊢
    rw [← hk.ime]
    refine ⟨_, hstep, fun hsched hi => commitIme_after_enable hsched hi hu, ?_, fun hsched hi => ?_,
      fun hsched hi hvalid => commitIme_after_scheduled hsched (hk.fault.trans hfault) hi hvalid hu⟩
    · rintro - rfl
      exact commitIme_after_di _ hu
    · obtain ⟨hime, hkept⟩ := commitIme_after_invalid (fetched n s).2.imeSched hi hu
      exact ⟨hime, hkept.trans hsched⟩
  · exact t.haltedSettled_iff.mp (step_haltedSettled (s.haltedSettled_iff.mpr hs) h)

/-! ### NOP, HALT, STOP, DI and EI -/

/-- Settles O47: the meaning of each as `exec` gives it. -/
theorem cpuControlInstructions : Obligations.CpuControlInstructions := fun x s =>
  ⟨rfl, exec_nop s, rfl, exec_halt s, rfl, exec_stop x s, rfl, exec_di s, rfl, exec_ei s⟩

end Sys2Proof.Machine
end

section
/-!
PROOFS, interrupts between and at the start of steps. What a halted step answers (R421, R422); which source a
dispatch serves and the state it leaves (R417–R420), as O53 and O60 write it.
-/

namespace Sys2Proof.Machine

open Sys2Proof.Statements

/-! ### The halted step and the step that dispatches -/

section
variable {s : State} {k : IrqSource}

theorem step_of_halted_idle (hf : s.fault = none) (hh : s.halted = true) (hp : pending s = 0) :
    step s = done 4 s := by
  simp only [step, cycle, hf, hh, if_true, haltedStep, hp, finish, done]

theorem step_of_halted_pending (hf : s.fault = none) (hh : s.halted = true) (hp : pending s ≠ 0) :
    step s = done 4 { s with halted := false } := by
  simp only [step, cycle, hf, hh, if_true, haltedStep, if_neg hp, finish, done]

theorem step_of_firstPending (hf : s.fault = none) (hh : s.halted = false) (hi : s.ime = true)
    (hk : firstPending (pending s) = some k) : step s = done 20 (dispatchInterrupt k s) := by
  rcases cycle_cases s with ⟨f, e, -⟩ | ⟨-, e, -⟩ | ⟨-, e, -⟩ | ⟨k', -, -, -, hk', e⟩ | ⟨-, -, hnone, -⟩
  · cases hf.symm.trans e
  · cases hh.symm.trans e
  · cases hh.symm.trans e
  · cases hk.symm.trans hk'
    exact e
  · cases hk.symm.trans (hnone hi)

/-- Whichever source it serves, a dispatch reports 20 T-cycles and turns interrupts off (R419, R420). -/
theorem step_dispatches (hf : s.fault = none) (hh : s.halted = false) (hi : s.ime = true)
    (hp : pending s ≠ 0) : ∃ t, step s = .next t ∧ t.report = some (.ok 20) ∧ t.ime = false := by
  obtain ⟨k, hk⟩ := Option.ne_none_iff_exists'.mp fun hnone => hp ((firstPending_eq_none _).mp hnone)
  exact ⟨_, step_of_firstPending hf hh hi hk, rfl, dispatchInterrupt_ime k s⟩

end

/-- Settles O52: the tick and the wake by their lemmas; after a wake the source still pends, so IME decides between
the dispatch and an instruction. -/
theorem haltedSteps : Obligations.HaltedSteps := by
  refine fun s hf hh => ⟨step_of_halted_idle hf hh, fun hp => ?_⟩
  have hwake := step_of_halted_pending hf hh hp
  refine ⟨hwake, fun t ht => ?_⟩
  cases hwake.symm.trans ht
  exact ⟨fun hi => step_dispatches hf rfl hi hp, fun hi => ⟨hf, rfl, .inl hi⟩⟩

/-! ### The source a dispatch serves, and the state it leaves -/

/-- The source served first is the lowest one whose bit is set (R417). -/
theorem firstPending_eq_some_of_lowest {p : BitVec 5} {k : IrqSource} (hk : p.getLsbD k.index = true)
    (hlow : ∀ j, j < k.index → p.getLsbD j = false) : firstPending p = some k := by
  revert p
  cases k <;> decide

theorem IrqSource.exists_index_eq (k : Fin 5) : ∃ x : IrqSource, x.index = k.val := by
  fin_cases k
  exacts [⟨.vblank, rfl⟩, ⟨.lcdStat, rfl⟩, ⟨.timer, rfl⟩, ⟨.serial, rfl⟩, ⟨.joypad, rfl⟩]

theorem IrqSource.mask_eq_ofNat (k : IrqSource) : k.mask = BitVec.ofNat 5 (2 ^ k.index) := by
  cases k <;> rfl

theorem IrqSource.vector_eq_ofNat (k : IrqSource) : k.vector = BitVec.ofNat 16 (0x40 + 8 * k.index) := by
  cases k <;> rfl

/-- The dispatch acknowledges the source before the push, and goes to its vector after it (R419). -/
theorem dispatchInterrupt_eq_pushed (k : IrqSource) (s : State) :
    dispatchInterrupt k s =
      withPC (BitVec.ofNat 16 (0x40 + 8 * k.index))
        (pushed s.regs.pc
          { s with
            ime := false
            imeSched := false
            irq := { s.irq with ifr := s.irq.ifr &&& ~~~ BitVec.ofNat 5 (2 ^ k.index) } }) := by
  rw [dispatchInterrupt, push16_eq_pushed, k.vector_eq_ofNat, InterruptController.acknowledge, k.mask_eq_ofNat]
  rfl

/-- Settles O53: the lowest pending source is the one served, and `dispatchInterrupt_eq_pushed` is its dispatch. -/
theorem interruptDispatch : Obligations.InterruptDispatch := by
  intro k s hf hh hi hk hlow
  obtain ⟨x, hx⟩ := IrqSource.exists_index_eq k
  rw [← hx] at hk hlow ⊢
  rw [step_of_firstPending hf hh hi (firstPending_eq_some_of_lowest hk hlow), dispatchInterrupt_eq_pushed]

/-! ### The requests of the host -/

theorem State.request_eq_requestAll (s : State) (k : IrqSource) : s.request k = s.requestAll k.mask := rfl

theorem getLsbD_pending_request (s : State) (k : IrqSource) (j : Nat) :
    (pending (s.request k)).getLsbD j =
      (s.irq.ie.getLsbD j && (decide (j = k.index) || s.irq.ifr.getLsbD j)) := by
  rw [getLsbD_pending, ← getLsbD_or_mask _ _ j k.getLsbD_mask]
  rfl

/-- The request of an enabled source makes it pending. -/
theorem getLsbD_pending_request_same {s : State} {k : IrqSource} (h : s.irq.ie.getLsbD k.index = true) :
    (pending (s.request k)).getLsbD k.index = true := by
  rw [getLsbD_pending_request, h, decide_eq_true rfl]
  rfl

/-- The request of a source makes no other source pending. -/
theorem getLsbD_pending_request_ne (s : State) {k : IrqSource} {j : Nat} (h : j ≠ k.index) :
    (pending (s.request k)).getLsbD j = (pending s).getLsbD j := by
  rw [getLsbD_pending_request, decide_eq_false h, Bool.false_or, getLsbD_pending]

theorem InterruptController.acknowledge_request (c : InterruptController) (k : IrqSource) :
    (c.request k).acknowledge k = c.acknowledge k := by
  have hbits : (c.ifr ||| k.mask) &&& ~~~ k.mask = c.ifr &&& ~~~ k.mask := by
    rw [BitVec.and_or_distrib_right]
    simp
  rw [acknowledge, request, hbits, acknowledge]

/-- The dispatch of a source clears its bit of IF, whether or not the host has just set it. -/
theorem dispatchInterrupt_request (k : IrqSource) (s : State) :
    dispatchInterrupt k (s.request k) = dispatchInterrupt k s := by
  simp only [dispatchInterrupt, State.request, InterruptController.acknowledge_request]

/-- Settles O60: a request sets its bits only; that of an enabled source makes it pending, so the next step
dispatches, and dispatches that source when no lower one pends. -/
theorem hostRequestsOnlySetIfBits : Obligations.HostRequestsOnlySetIfBits := by
  intro s m k j
  refine ⟨BitVec.getLsbD_or, rfl, rfl, ?_, fun hf hh hi he => ?_⟩
  · rw [s.request_eq_requestAll, k.mask_eq_ofNat]
  have hk := getLsbD_pending_request_same he
  refine ⟨step_dispatches hf hh hi fun hp => ?_, fun hlow => ?_⟩
  · simp [hp] at hk
  · have hlow' : ∀ i, i < k.index → (pending (s.request k)).getLsbD i = false := fun i hlt =>
      (getLsbD_pending_request_ne s hlt.ne).trans (hlow i hlt)
    have hstep : step (s.request k) = done 20 (dispatchInterrupt k (s.request k)) :=
      step_of_firstPending hf hh hi (firstPending_eq_some_of_lowest hk hlow')
    rw [hstep, dispatchInterrupt_request, dispatchInterrupt_eq_pushed]

end Sys2Proof.Machine
end

section
/-!
PROOFS, the reachable states (O56). Every construction meets the invariant; the steps keep it (O54), and so do the
requests of the host, which the invariant does not look at.
-/

namespace Sys2Proof.Machine

section
variable {p : Config.Params} {image : List Byte} {boot : Option (List Byte)}

/-! ### The cartridge and the boot buffer of a construction -/

/-- Every mapper of R99's table starts with bank 1 selected (R115, R125, R130, R140, R468). -/
theorem Mapper.wf_of_type {t : Byte} {m : Mapper} (h : mapperOfType t = some m) : m.wf = true := by
  rcases mapperOfType_cases h with ⟨-, rfl⟩ | ⟨-, -, rfl⟩ | ⟨-, -, rfl⟩ | ⟨-, -, rfl⟩ | ⟨-, rfl⟩ <;> rfl

theorem Memory.wf_initialRam (m : Mapper) (size : Nat) (init : List Byte) :
    Memory.wf 0x00 (initialRam m size init) = true := by
  unfold initialRam
  split
  · rfl
  · exact Memory.wf_ofBytes _ _
  · exact Memory.wf_ofBytes _ _

/-- The first bytes of a list, as many as an array holds, stay within the array. -/
theorem Memory.within_ofBytes_take (bytes : List Byte) (n : Nat) :
    Memory.within n (Memory.ofBytes 0x00 0 (bytes.take n)) = true :=
  Memory.within_ofBytes _ _ (List.length_take_le n bytes)

/-- A byte of an MBC2's initial RAM is masked to four bits (R125, R469). -/
theorem toNat_lt_of_mem_map_low {bytes : List Byte} {b : Byte} (h : b ∈ bytes.map (· &&& 0x0F)) :
    b.toNat < 16 := by
  obtain ⟨x, -, rfl⟩ := List.mem_map.mp h
  exact Nat.lt_of_le_of_lt (BitVec.toNat_and x 0x0F ▸ Nat.and_le_right) (by decide)

/-- Cartridge RAM at reset fits its array; an MBC2's cells hold four bits (R102, R125). -/
theorem Cartridge.ramWf_of_initialRam {c : Cartridge} {init : List Byte}
    (h : c.ram = initialRam c.mapper c.ramSize init) : c.ramWf = true := by
  rw [Cartridge.ramWf, h]
  cases c.mapper with
  | noMapper => rfl
  | mbc2 r =>
    rw [Bool.and_eq_true]
    refine ⟨Memory.within_ofBytes _ _ ?_, List.all_eq_true.mpr fun x hx => decide_eq_true ?_⟩
    · rw [List.length_map]
      exact List.length_take_le _ _
    · obtain ⟨-, -, hmem⟩ := Memory.mem_ofBytes _ _ x hx
      exact toNat_lt_of_mem_map_low hmem
  | mbc1 r | mbc3 timer r | mbc5 rumble r => exact Memory.within_ofBytes_take init c.ramSize

theorem two_le_shiftLeft (n : Nat) : 2 ≤ 2 <<< n := by
  rw [Nat.shiftLeft_eq]
  exact Nat.le_mul_of_pos_right 2 (Nat.two_pow_pos n)

theorem buildCartridge_wf {c : Cartridge} (h : buildCartridge p image = .ok c) : c.wf = true := by
  obtain ⟨m, hm, hc⟩ := buildCartridge_of_loads (loads_of_buildCartridge h)
  cases hc.symm.trans h
  simp only [Cartridge.wf, Bool.and_eq_true]
  exact ⟨⟨⟨⟨⟨Memory.wf_ofBytes image 0, Memory.within_ofBytes image _ le_rfl⟩,
    decide_eq_true (two_le_shiftLeft _)⟩, Memory.wf_initialRam _ _ _⟩,
    Cartridge.ramWf_of_initialRam (loadedCartridge_ram p image m)⟩, Mapper.wf_of_type hm⟩

theorem buildBoot_wf {buffer : Memory} (h : buildBoot p boot = .ok buffer) :
    Memory.wf 0x00 buffer = true ∧ Memory.within Config.bootSize buffer = true := by
  unfold buildBoot at h
  split at h
  · cases h
    exact ⟨rfl, rfl⟩
  · split at h <;> cases h
    exact ⟨Memory.wf_ofBytes _ _, Memory.within_ofBytes_take _ _⟩

/-! ### The state of a construction -/

/-- A construction answers the reset state, with its registers, boot buffer and cartridge in it (R460). -/
theorem construct_eq_ok {s : State} (h : construct p image boot = .ok s) :
    ∃ cart buffer, buildCartridge p image = .ok cart ∧ buildBoot p boot = .ok buffer ∧
      s = { State.reset with
            regs := if boot.isSome then bootRegisters p.regInit else RegisterFile.reset
            bus := { Bus.reset with boot := buffer, bootMapped := boot.isSome }
            cart := cart } := by
  obtain ⟨hc, buffer, hb⟩ := construct_cart h
  refine ⟨s.cart, buffer, hc, hb, ?_⟩
  rw [construct, hc] at h
  simp only [hb] at h
  exact (Except.ok.inj h).symm

/-- F is masked when a boot image draws it, and 0xB0 otherwise (R21, R463, R464). -/
theorem construct_fLowZero {s : State} (h : construct p image boot = .ok s) : s.fLowZero = true := by
  obtain ⟨cart, buffer, -, -, rfl⟩ := construct_eq_ok h
  refine beq_iff_eq.mpr ?_
  split
  · exact (BitVec.and_assoc ..).trans BitVec.and_zero
  · show RegisterFile.reset.f &&& 0x0F = 0x00
    decide

theorem construct_memWf {s : State} (h : construct p image boot = .ok s) : s.memWf = true := by
  obtain ⟨cart, buffer, hc, hb, rfl⟩ := construct_eq_ok h
  obtain ⟨hwf, hwithin⟩ := buildBoot_wf hb
  refine (State.memWf_iff _).mpr ⟨?_, buildCartridge_wf hc⟩
  simp only [Bus.wf, Bus.reset, hwf, hwithin, Memory.wf_nil, Memory.within_nil, Bool.and_self]

theorem construct_inv {s : State} (h : construct p image boot = .ok s) : s.Inv = true := by
  refine s.inv_iff.mpr ⟨construct_memWf h, construct_fLowZero h, ?_⟩
  obtain ⟨cart, buffer, -, -, rfl⟩ := construct_eq_ok h
  exact ⟨rfl, rfl⟩

end

/-! ### The invariant along a session -/

@[simp] theorem State.inv_requestAll (s : State) (sources : BitVec 5) : (s.requestAll sources).Inv = s.Inv := rfl

/-- Settles O56, by induction on how the state is reached. -/
theorem reachableMeetsInvariant : Obligations.ReachableMeetsInvariant := by
  intro s hs
  induction hs with
  | constructed p image boot s h => exact construct_inv h
  | stepped s t _ h ih => exact stepKeepsInvariant s t ih h
  | requested s _ sources ih => rwa [State.inv_requestAll]

end Sys2Proof.Machine
end

section
/-!
PROOFS, the state at reset. A construction is fully described by its cartridge and its boot buffer
(`construct_eq`, `construct_eq_ok`); from that its reset values (O1), the boot buffer (O2), `State.reset` as the
construction from a blank image (O4) and the invariant of `State.reset` (O55).
-/

namespace Sys2Proof.Machine

open Sys2Proof.Statements

section
variable {p : Config.Params} {image : List Byte} {boot : Option (List Byte)} {cart : Cartridge} {buffer : Memory}

/-- The converse of `construct_eq_ok`: the state that a cartridge and a boot buffer make (R460). -/
theorem construct_eq (hc : buildCartridge p image = .ok cart) (hb : buildBoot p boot = .ok buffer) :
    construct p image boot = .ok
      { State.reset with
        regs := if boot.isSome then bootRegisters p.regInit else RegisterFile.reset
        bus := { Bus.reset with boot := buffer, bootMapped := boot.isSome }
        cart := cart } := by
  rw [construct, hc]
  simp only [hb]

/-- Without a boot image only the cartridge differs from `State.reset` (R463, R465). -/
theorem construct_none (hc : buildCartridge p image = .ok cart) :
    construct p image none = .ok { State.reset with cart := cart } :=
  construct_eq hc rfl

/-! ### The RAM and the registers -/

/-- While nothing is written to the RAM of the bus, all of it reads zero (R461). -/
theorem readValue_of_zeroRam {a : Word} {s : State} (h : PlainRam a) (hvram : s.bus.vram = [])
    (hwram : s.bus.wram = []) (hoam : s.bus.oam = []) (hhram : s.bus.hram = []) : readValue a s = 0x00 := by
  obtain ⟨c, hc, ht⟩ := plainRam_reachesBusCell h
  rw [readValue_of_cell (ht s)]
  cases c with
  | vram i => rw [readCell, hvram, Memory.read_nil]
  | wram i => rw [readCell, hwram, Memory.read_nil]
  | oam i => rw [readCell, hoam, Memory.read_nil]
  | hram i => rw [readCell, hhram, Memory.read_nil]
  | cartRam i => exact absurd rfl (hc i)

/-- Without a request nothing is pending, whatever is enabled (R415). -/
theorem pending_of_noRequest {s : State} (h : s.irq.ifr = 0) : pending s = 0 := by
  rw [pending, h]
  exact BitVec.and_zero

/-- Without a request only the fixed bits 7:5 of IF read as 1 (R73, R466). -/
theorem readValue_FF0F_of_noRequest {s : State} (h : s.irq.ifr = 0) : readValue 0xFF0F s = 0xE0 := by
  have hread : readValue 0xFF0F s = ifByte s.irq.ifr := congrArg Prod.fst (memRead_FF0F s)
  rw [hread, h]
  rfl

/-! ### The boot buffer -/

theorem buildBoot_accepted {b : List Byte}
    (h : p.strictBootValidation = false ∨ b.length = 256 ∨ b.length = 2304) :
    buildBoot p (some b) = .ok (Memory.ofBytes 0x00 0 (b.take Config.bootSize)) := by
  refine if_neg ?_
  rcases h with h | h | h <;> simp [h]

/-- The buffer holds the first bytes of the image, and zero past its end (R462). -/
theorem read_bootBuffer (b : List Byte) {i : Nat} (hi : i < 256) :
    Memory.read 0x00 (Memory.ofBytes 0x00 0 (b.take Config.bootSize)) i = byteAt b i := by
  rw [Memory.read_ofBytes_zero, byteAt_take (n := Config.bootSize) hi]

/-! ### The blank cartridge -/

theorem byteAt_replicate_zero (n i : Nat) : byteAt (List.replicate n 0x00) i = 0x00 := by
  rw [byteAt, List.getD_eq_getElem?_getD, List.getElem?_getD_replicate_default_eq]

theorem loads_replicate_zero {n : Nat} (hn : 0x0150 ≤ n) (h : 0x00 ∈ p.recognizedTypes) :
    Loads p (List.replicate n 0x00) := by
  rw [Loads, List.length_replicate, byteAt_replicate_zero, byteAt_replicate_zero, byteAt_replicate_zero]
  exact ⟨hn, ⟨h, by decide⟩, by decide, by decide⟩

/-- The zero header declares two banks and no RAM, and the zero bytes list nothing (R95, R96). -/
theorem loadedCartridge_replicate_zero (p : Config.Params) :
    loadedCartridge p (List.replicate 0x8000 0x00) .noMapper = Cartridge.blank := by
  rw [loadedCartridge, byteAt_replicate_zero, byteAt_replicate_zero, Memory.ofBytes_replicate,
    List.length_replicate]
  rfl

theorem buildCartridge_blank (h : 0x00 ∈ p.recognizedTypes) :
    buildCartridge p (List.replicate 0x8000 0x00) = .ok Cartridge.blank := by
  obtain ⟨m, hm, hc⟩ := buildCartridge_of_loads (loads_replicate_zero (n := 0x8000) (by decide) h)
  rw [byteAt_replicate_zero] at hm
  cases hm
  rw [hc, loadedCartridge_replicate_zero]

end

/-! ### The obligations -/

/-- Settles O1: every field but the cartridge and the boot buffer is fixed by `construct_eq_ok`. -/
theorem constructGivesResetState : Obligations.ConstructGivesResetState := by
  intro p image boot s h
  obtain ⟨cart, buffer, -, -, rfl⟩ := construct_eq_ok h
  refine ⟨fun a ha => readValue_of_zeroRam ha rfl rfl rfl rfl, rfl, rfl, rfl, rfl, rfl, rfl,
    pending_of_noRequest rfl, readValue_FF0F_of_noRequest rfl, ?_, ?_⟩
  · rintro rfl
    exact ⟨rfl, rfl⟩
  · intro hboot
    obtain ⟨b, rfl⟩ := Option.ne_none_iff_exists'.mp hboot
    exact ⟨rfl, rfl⟩

/-- Settles O2: the empty buffer, the accepted image by `read_bootBuffer`, and the refused size. -/
theorem bootBufferAtReset : Obligations.BootBufferAtReset := by
  intro p image cart hc
  exact ⟨⟨_, construct_none hc, fun i _ => Memory.read_nil i⟩,
    fun b h => ⟨_, construct_eq hc (buildBoot_accepted h), fun _ hi => read_bootBuffer b hi⟩,
    fun b hs h1 h2 => construct_of_boot_error hc (buildBoot_badSize hs h1 h2)⟩

/-- Settles O4: the blank image builds `Cartridge.blank`, and the rest is `construct_none`. -/
theorem blankCartridgeGivesReset : Obligations.BlankCartridgeGivesReset := fun _ h =>
  construct_none (buildCartridge_blank h)

/-- Settles O55, part by part of the invariant. -/
theorem resetMeetsInvariant : Obligations.ResetMeetsInvariant :=
  State.reset.inv_iff.mpr ⟨State.memWf_reset, by decide, rfl, rfl⟩

end Sys2Proof.Machine
end
